-- ==== Sys2Proof/Word.lean ====
section
/-! DEFINITION. The two word types of the CPU08: the 8-bit byte, which is the data width and the unit of
memory, and the 16-bit word, the width of an address and of SP, PC and H:X (spec/00_scope.md R5). -/

namespace Sys2Proof

/-- A byte: the width of A, X, H and of every memory location (R5). Bit 7 is the most significant (R6). -/
abbrev Byte := BitVec 8

/-- A 16-bit value: an address, SP, PC or H:X (R5). Sums of words wrap modulo 2^16 (D3). -/
abbrev Word := BitVec 16

end Sys2Proof
end

