-- ==== Sys2Proof/Machine/Bits.lean ====
section
/-! DEFINITION. Byte order, concatenation and extension: the notation `a:b`, `v[hi:lo]`, `sext_16` and
`zext_16` of spec/00_scope.md R6 and R10. -/

namespace Sys2Proof

/-- `hi:lo`, the word whose high-order byte is `hi` (R6). -/
def joinBytes (hi lo : Byte) : Word := hi ++ lo

/-- `v[15:8]`. -/
def hiByte (v : Word) : Byte := v.extractLsb' 8 8

/-- `v[7:0]`. -/
def loByte (v : Word) : Byte := v.extractLsb' 0 8

/-- `sext_16` of R10: a two's-complement byte as a word. -/
def sext16 (b : Byte) : Word := b.signExtend 16

/-- `zext_16` of R10: an unsigned byte as a word. -/
def zext16 (b : Byte) : Word := b.setWidth 16

/-- A one-bit number, for exact sums that take a carry or a borrow in. -/
def bitNat (b : Bool) : Nat := if b then 1 else 0

/-- The byte `1 << n`, the mask of bit n (spec/30_encoding.md R98). -/
def bitMask (n : Nat) : Byte := 1#8 <<< n

end Sys2Proof
end

