-- ==== Sys2Proof/Config.lean ====
section
/-! DEFINITION. What a launch of the machine fixes (spec/00_scope.md R5, spec/70_reset_and_hazards.md
R350), and the values the spec leaves free. The launch's parameters are plain data; they stand in State and
no step changes them. The free values are opaque: nothing can be proved of them (spec/93, section 1). -/

namespace Sys2Proof

/-- What `MEMMAP` says an address is (spec/20_memory.md R57 to R61). -/
inductive MemKind
  | ram
  | rom
  | io
  | unimplemented
deriving DecidableEq, Repr

/-- A part of `MEMMAP`: `size` addresses from `base` on. -/
structure Region where
  base : Nat
  size : Nat
  kind : MemKind
deriving DecidableEq, Repr

/-- A hardware interrupt source (spec/60_exceptions.md R313): the IRQ pin, or an on-chip system. -/
inductive IntSource
  | irq
  | onChip (k : Nat)
deriving DecidableEq, Repr

/-- `RESET_CCR` flag by flag (spec/10_state.md R40): `none` is "unspecified, any value". -/
structure ResetCcr where
  v : Option Bool
  hf : Option Bool
  i : Option Bool
  n : Option Bool
  z : Option Bool
  c : Option Bool
deriving DecidableEq, Repr

/-- The parameters of a launch (R5). -/
structure Params where
  /-- `MEMMAP`; an address in no region is RAM (log 2). -/
  regions : List Region
  /-- `RESET_VECTOR`: where the high byte of the start address stands (D12). -/
  resetVector : Word
  /-- `INTERRUPT_SOURCES`: each source with `VECTOR(s)`, the highest priority first (R313, R319). -/
  sources : List (IntSource × Word)
  resetSp : Word
  resetH : Byte
  /-- `RESET_A`; `none` where it is left open (R350). -/
  resetA : Option Byte
  /-- `RESET_X`; `none` where it is left open (R350). -/
  resetX : Option Byte
  resetCcr : ResetCcr
  /-- `ILLEGAL_OPCODE_RESETS` of R312: an unassigned opcode resets instead of faulting. -/
  illegalOpcodeResets : Bool
deriving DecidableEq, Repr

namespace Config

/-- `SWI_VECTOR` (R5): the high byte of the handler's address stands at `$FFFC`, the low byte at `$FFFD`. -/
def swiVector : Word := 0xFFFC#16

/-- FREE VALUE (log 13): the `n`-th draw `any8()` of R10. -/
opaque anyByte : Nat → Byte

/-- FREE VALUE (log 13, 14): the `n`-th draw `anybit()` of R10. -/
opaque anyBit : Nat → Bool

/-- FREE VALUE (log 6): what the environment answers when the `n`-th draw is a read of the IO address `a`
(spec/20_memory.md R60). -/
opaque ioAnswer : Nat → Word → Byte

/-- FREE VALUE (log 1): the byte that stands at an address nothing has written: "some definite value that the
program cannot know" (spec/10_state.md R41). -/
opaque unwritten : Word → Byte

/-- The conventional launch (K1 to K3, PRESUMED, log 2, 8, 26): every address RAM, the reset vector at
`$FFFE`, the IRQ pin alone with its vector at `$FFFA`, SP `$00FF`, H `$00`, I set, the rest open. -/
def conventional : Params :=
  { regions := []
    resetVector := 0xFFFE#16
    sources := [(.irq, 0xFFFA#16)]
    resetSp := 0x00FF#16
    resetH := 0x00#8
    resetA := none
    resetX := none
    resetCcr := { v := none, hf := none, i := some true, n := none, z := none, c := none }
    illegalOpcodeResets := false }

end Config

end Sys2Proof
end

