-- ==== Sys2Proof/Machine/State.lean ====
section
/-! DEFINITION. The state of the CPU08 as plain data (spec/10_state.md R20), the reasons a step can stop,
and the machine right after reset. -/

namespace Sys2Proof.Machine

/-- The six flags of the condition code register (R26). Bits 6 and 5 of the register are no state. -/
structure Ccr where
  /-- bit 7, overflow (R27) -/
  v : Bool
  /-- bit 4, half carry, `Hf` in the spec's pseudocode (R28) -/
  hf : Bool
  /-- bit 3, interrupt mask (R29) -/
  i : Bool
  /-- bit 2, negative (R30) -/
  n : Bool
  /-- bit 1, zero (R31) -/
  z : Bool
  /-- bit 0, carry/borrow (R32) -/
  c : Bool
deriving DecidableEq, Repr

/-- `RUN` (R36). -/
inductive Run
  | running
  | waiting
  | stopped
deriving DecidableEq, Repr

/-- One access to an IO address, with the byte read or written (spec/20_memory.md R60). -/
inductive IoAccess
  | read (addr : Word) (value : Byte)
  | write (addr : Word) (value : Byte)
deriving DecidableEq, Repr

/-- What the environment does at one instruction boundary (spec/60_exceptions.md R333 (a), (b)). -/
structure EnvInput where
  /-- RESET is asserted at this boundary. -/
  reset : Bool
  /-- The level of the IRQ pin from this boundary on. -/
  irqPin : Bool
  /-- The sources that request service. -/
  raised : List IntSource
  /-- The sources whose request goes away. -/
  withdrawn : List IntSource
deriving DecidableEq, Repr

/-- The bytes of RAM and ROM that have a value: address and byte, addresses strictly rising. An address that
is not listed holds a byte nothing has written. -/
abbrev Memory := List Host.Cell

/-- The whole state. Every field is listed with its rule and its reset value in INVENTORY.md. -/
structure State where
  /-- the accumulator (R21) -/
  a : Byte
  /-- index register low (R22) -/
  x : Byte
  /-- index register high (R22) -/
  h : Byte
  /-- the stack pointer: the next unused byte of a stack that grows downward (R23) -/
  sp : Word
  /-- the program counter: the first byte of the instruction about to execute (R24) -/
  pc : Word
  /-- the condition code register (R26) -/
  ccr : Ccr
  /-- the level of the IRQ pin, true for high (R34) -/
  irqPin : Bool
  /-- `PENDING` (R35), without repeats -/
  pending : List IntSource
  /-- `RUN` (R36) -/
  run : Run
  /-- `late_window`: the last instruction was an SEI that found I = 0 (R317) -/
  seiWindow : Bool
  /-- memory (R38) -/
  mem : Memory
  /-- the launch's parameters (R5); no step changes them -/
  params : Params
  /-- the MODEL's own: how many free values have been drawn -/
  draws : Nat
  /-- the MODEL's own: the accesses to IO addresses, newest first -/
  ioTrace : List IoAccess
  /-- the MODEL's own: what the environment does at the boundaries to come -/
  inputs : List EnvInput
deriving DecidableEq, Repr

/-- Why a run ends in a fault of the model (spec/60_exceptions.md R311). -/
inductive Fault
  /-- The byte or the two bytes at `pc` are no instruction (R312). Raised by the fetch. Safe: the hardware may go
  on, and nothing can be proved past it. -/
  | illegalOpcode (pc : Word) (bytes : List Byte)
  /-- An access to an address that `MEMMAP` calls unimplemented (spec/20_memory.md R59). Raised by every
  access. Safe. -/
  | illegalAddress (addr : Word)
  /-- A write to an address that `MEMMAP` calls ROM (spec/20_memory.md R59). Raised by every write. Safe. -/
  | writeToRom (addr : Word)
deriving DecidableEq, Repr

/-- Why the model declines a step. -/
inductive Refusal
  /-- No meaning has been written for the instruction. No arm of `exec` answers so. Safe. -/
  | notModelled (mnemonic : String)
  /-- An instruction byte would come from an IO address (spec/20_memory.md R61, U8). Raised by the fetch.
  Safe. -/
  | fetchFromIo (addr : Word)
deriving DecidableEq, Repr

/-- How an operation ends that has no next state. -/
inductive Stop
  | fault (f : Fault)
  | refused (r : Refusal)
deriving DecidableEq, Repr

/-- The machine right after reset, of the conventional launch, with no program loaded: the default start state
of spec/95_test_vectors.md section 0 (log 7, 8, 9, 29). -/
def State.reset : State :=
  { a := 0x00#8
    x := 0x00#8
    h := Config.conventional.resetH
    sp := Config.conventional.resetSp
    pc := 0x6E00#16
    ccr := { v := false, hf := false, i := true, n := false, z := false, c := false }
    irqPin := true
    pending := []
    run := .running
    seiWindow := false
    mem := []
    params := Config.conventional
    draws := 0
    ioTrace := []
    inputs := [] }

end Sys2Proof.Machine
end

