-- ==== Sys2Proof/Machine/Ops.lean ====
section
/-! DEFINITION. The named operations over memory and registers (spec/00_scope.md R8 to R11,
spec/20_memory.md), the draws, taking an exception and returning from one (spec/60_exceptions.md R318,
R320), and reset (spec/70_reset_and_hazards.md R350). -/

namespace Sys2Proof.Machine

/-! ### Memory as a list of cells -/

/-- The byte listed for an address, if one is. An unlisted address holds a byte nothing has written (R58,
log 1). -/
def Memory.read : Memory → Nat → Option Byte
  | [], _ => none
  | (k, b) :: rest, a => if a = k then some b else if a < k then none else Memory.read rest a

/-- Puts a byte at an address, keeping the addresses strictly rising. -/
def Memory.write : Memory → Nat → Byte → Memory
  | [], a, v => [(a, v)]
  | (k, b) :: rest, a, v =>
    if a = k then (k, v) :: rest
    else if a < k then (a, v) :: (k, b) :: rest
    else (k, b) :: Memory.write rest a v

/-- The canonical form: addresses strictly rising and inside the address space (R56). What an unlisted address
reads as is no listed byte (`Memory.read` answers `none`), so no entry can equal it. -/
abbrev Memory.wf (m : Memory) : Prop :=
  m.Pairwise (fun p q => p.1 < q.1) ∧ ∀ p ∈ m, p.1 < 65536

/-! ### What an address is -/

/-- Whether a region holds an address. -/
def inRegion (r : Region) (a : Word) : Bool :=
  decide (r.base ≤ a.toNat) && decide (a.toNat < r.base + r.size)

/-- `MEMMAP(addr)` (R57): the first region that holds the address; RAM where none does (log 2). -/
def State.kindAt (s : State) (a : Word) : MemKind :=
  match s.params.regions.find? (fun r => inRegion r a) with
  | some r => r.kind
  | none => .ram

/-- A read of this address completes (R58 to R60). -/
abbrev State.readable (s : State) (a : Word) : Prop := s.kindAt a ≠ .unimplemented

/-- A write to this address completes (R58 to R60). -/
abbrev State.writable (s : State) (a : Word) : Prop := s.kindAt a = .ram ∨ s.kindAt a = .io

/-- An instruction byte can be fetched from this address (R61). -/
abbrev State.fetchable (s : State) (a : Word) : Prop := s.kindAt a = .ram ∨ s.kindAt a = .rom

/-! ### Byte accesses -/

/-- The byte that RAM or ROM holds at an address: the byte last written, or the one nothing has written
(R58, R59, R41). -/
def State.peek (s : State) (a : Word) : Byte := (s.mem.read a.toNat).getD (Config.unwritten a)

/-- What a read of an address gives: memory's byte, or for an IO address the environment's answer (R60). -/
def State.readValue (s : State) (a : Word) : Byte :=
  if s.kindAt a = .io then Config.ioAnswer s.draws a else s.peek a

/-- The state after a read: a read of RAM or ROM has no side effect (R58); a read of an IO address uses up one
answer of the environment and is recorded (R60). -/
def State.afterRead (s : State) (a : Word) : State :=
  { s with
    draws := if s.kindAt a = .io then s.draws + 1 else s.draws
    ioTrace := if s.kindAt a = .io then .read a (Config.ioAnswer s.draws a) :: s.ioTrace else s.ioTrace }

/-- The state after a write that completes: RAM holds the byte (R58); an IO address hands it to the environment,
and memory is untouched (R60). -/
def State.afterWrite (s : State) (a : Word) (v : Byte) : State :=
  { s with
    mem := if s.kindAt a = .io then s.mem else s.mem.write a.toNat v
    ioTrace := if s.kindAt a = .io then .write a v :: s.ioTrace else s.ioTrace }

/-- `MemRead(addr, 1)` (R9). -/
def readByte (a : Word) (s : State) : Except Stop (Byte × State) :=
  if s.kindAt a = .unimplemented then .error (.fault (.illegalAddress a))
  else .ok (s.readValue a, s.afterRead a)

/-- `MemWrite(addr, 1, v)` (R9). -/
def writeByte (a : Word) (v : Byte) (s : State) : Except Stop State :=
  match s.kindAt a with
  | .unimplemented => .error (.fault (.illegalAddress a))
  | .rom => .error (.fault (.writeToRom a))
  | .ram => .ok (s.afterWrite a v)
  | .io => .ok (s.afterWrite a v)

/-- `MemRead(addr, 2)` (R9): the high byte from the lower address, read first (R50, R53). -/
def readWord (a : Word) (s : State) : Except Stop (Word × State) := do
  let (hi, s1) ← readByte a s
  let (lo, s2) ← readByte (a + 1) s1
  .ok (joinBytes hi lo, s2)

/-- `MemWrite(addr, 2, v)` (R9): the high byte to the lower address, written first (R50, R53). -/
def writeWord (a : Word) (v : Word) (s : State) : Except Stop State := do
  let s1 ← writeByte a (hiByte v) s
  writeByte (a + 1) (loByte v) s1

/-! ### Registers -/

/-- `HX`, the 16-bit index register (spec/10_state.md R22). -/
def State.hx (s : State) : Word := joinBytes s.h s.x

/-- `HX <- v` (R8). -/
def State.setHx (s : State) (v : Word) : State := { s with h := hiByte v, x := loByte v }

/-- `npc` of an instruction of `len` bytes (R11): the address after it, modulo 2^16 (D3). -/
def State.npc (s : State) (len : Nat) : Word := s.pc + BitVec.ofNat 16 len

/-- Where a relative branch of `len` bytes goes on (spec/30_encoding.md R96): to `npc + sext_16(rr)` if it is
taken, to `npc` if not. -/
def State.branchTarget (s : State) (len : Nat) (rr : Byte) (taken : Bool) : Word :=
  s.npc len + (if taken then sext16 rr else 0)

/-- `CCRbyte()` (R10): V:1:1:H:I:N:Z:C (R26). -/
def Ccr.byte (c : Ccr) : Byte :=
  BitVec.ofNat 8 (bitNat c.v * 128 + 64 + 32 + bitNat c.hf * 16 + bitNat c.i * 8 + bitNat c.n * 4
    + bitNat c.z * 2 + bitNat c.c)

/-- `setCCR(b)` (R10): bits 6 and 5 of the byte are discarded (R26). -/
def Ccr.ofByte (b : Byte) : Ccr :=
  { v := b.getLsbD 7, hf := b.getLsbD 4, i := b.getLsbD 3, n := b.getLsbD 2, z := b.getLsbD 1, c := b.getLsbD 0 }

/-! ### The stack -/

/-- The state after a push that completes: the byte stands at the old SP, and SP is one lower (R10). -/
def State.pushed (s : State) (v : Byte) : State := { s.afterWrite s.sp v with sp := s.sp - 1 }

/-- `push8(v)` (R10): store at SP, then decrement SP. -/
def push8 (v : Byte) (s : State) : Except Stop State := do
  let s1 ← writeByte s.sp v s
  .ok { s1 with sp := s.sp - 1 }

/-- `pull8()` (R10): increment SP, then load from SP. -/
def pull8 (s : State) : Except Stop (Byte × State) :=
  readByte (s.sp + 1) { s with sp := s.sp + 1 }

/-- Pushes a return address: the low byte first, so that the high byte stands at the lower address (R50, R53). -/
def pushWord (v : Word) (s : State) : Except Stop State := do
  let s1 ← push8 (loByte v) s
  push8 (hiByte v) s1

/-- Pulls a return address: the high byte first (R53). -/
def pullWord (s : State) : Except Stop (Word × State) := do
  let (hi, s1) ← pull8 s
  let (lo, s2) ← pull8 s1
  .ok (joinBytes hi lo, s2)

/-! ### Draws -/

/-- `any8()` (R10): the next free byte. -/
def State.drawByte (s : State) : Byte × State := (Config.anyByte s.draws, { s with draws := s.draws + 1 })

/-- `anybit()` (R10): the next free bit. -/
def State.drawBit (s : State) : Bool × State := (Config.anyBit s.draws, { s with draws := s.draws + 1 })

/-- A byte parameter of the launch, or a draw where it is left open (R350). -/
def State.orDrawByte (p : Option Byte) (s : State) : Byte × State :=
  match p with
  | some b => (b, s)
  | none => s.drawByte

/-- A flag parameter of the launch, or a draw where it is left open (R40, R350). -/
def State.orDrawBit (p : Option Bool) (s : State) : Bool × State :=
  match p with
  | some b => (b, s)
  | none => s.drawBit

/-! ### Exceptions -/

/-- TAKING AN EXCEPTION: the sequence that SWI and a hardware interrupt share
(spec/49_jump_return_control.md R287, spec/60_exceptions.md R318). The return address is pushed low byte first,
then X, A and the CCR as it stands; then I is set and PC is loaded from the vector. H is not pushed. -/
def enterException (ret vector : Word) (s : State) : Except Stop State := do
  let s1 ← pushWord ret s
  let s2 ← push8 s.x s1
  let s3 ← push8 s.a s2
  let s4 ← push8 s.ccr.byte s3
  let (target, s5) ← readWord vector { s4 with ccr := { s.ccr with i := true } }
  .ok { s5 with pc := target }

/-- RETURN FROM AN EXCEPTION (R288, R320): CCR, A, X, PCH and PCL are pulled, in that order. -/
def returnFromException (s : State) : Except Stop State := do
  let (flags, s1) ← pull8 s
  let (acc, s2) ← pull8 s1
  let (idx, s3) ← pull8 s2
  let (target, s4) ← pullWord s3
  .ok { s4 with ccr := Ccr.ofByte flags, a := acc, x := idx, pc := target }

/-- `take_interrupt(s)` (R318): the exception sequence with the address of the next instruction and the
source's own vector; the machine runs, and the source is no longer pending. -/
def takeInterrupt (src : IntSource) (vector : Word) (s : State) : Except Stop State := do
  let s1 ← enterException s.pc vector s
  .ok { s1 with run := .running, pending := s1.pending.filter (fun p => p != src) }

/-- `setCCR(RESET_CCR)` (R350), with a draw for each flag that is left open. -/
def resetFlags (p : ResetCcr) (s : State) : Ccr × State :=
  let (v, s1) := s.orDrawBit p.v
  let (hf, s2) := s1.orDrawBit p.hf
  let (i, s3) := s2.orDrawBit p.i
  let (n, s4) := s3.orDrawBit p.n
  let (z, s5) := s4.orDrawBit p.z
  let (c, s6) := s5.orDrawBit p.c
  ({ v := v, hf := hf, i := i, n := n, z := z, c := c }, s6)

/-- The reset step (R350), usable from any state at a boundary: nothing is stacked and memory is unchanged. -/
def resetMachine (s : State) : Except Stop State :=
  let (acc, s1) := s.orDrawByte s.params.resetA
  let (idx, s2) := s1.orDrawByte s.params.resetX
  let (flags, s3) := resetFlags s.params.resetCcr s2
  do
    let (target, s4) ← readWord s.params.resetVector
      { s3 with
        sp := s.params.resetSp
        h := s.params.resetH
        a := acc
        x := idx
        ccr := flags
        run := .running
        seiWindow := false }
    .ok { s4 with pc := target }

/-- The outcome of an operation that ends in a state or a stop. -/
def finish (r : Except Stop State) : Host.Outcome State Fault Refusal :=
  match r with
  | .ok s => .next s
  | .error (.fault f) => .fault f
  | .error (.refused q) => .refused q

end Sys2Proof.Machine
end

