-- ==== Sys2Proof/Machine/Flags.lean ====
section
/-! DEFINITION. Results and flags of the arithmetic (spec/42_arithmetic_dyadic.md R160), of loads and logic, of
the shifts (spec/44_rotates_shifts.md) and of the one-operand arithmetic (spec/43_arithmetic_monadic.md).
Operands are taken as numbers, the exact result is formed, and it is narrowed at the end. -/

namespace Sys2Proof.Machine

/-! ### N and Z from a result -/

/-- `setNZ8(r)` (R10). -/
def Ccr.nz8 (f : Ccr) (r : Byte) : Ccr := { f with n := r.getLsbD 7, z := r == 0 }

/-- `setNZ16(r)` (R10). -/
def Ccr.nz16 (f : Ccr) (r : Word) : Ccr := { f with n := r.getLsbD 15, z := r == 0 }

/-- The flags of a load, a store, a move, a test or a logical operation: V cleared, N and Z from the byte. -/
def Ccr.loaded8 (f : Ccr) (r : Byte) : Ccr := { f.nz8 r with v := false }

/-- The same for the 16-bit LDHX and STHX. -/
def Ccr.loaded16 (f : Ccr) (r : Word) : Ccr := { f.nz16 r with v := false }

/-! ### Addition and subtraction (R160) -/

/-- `(a + m + cin) mod 2^8`. -/
def add8 (a m : Byte) (cin : Bool) : Byte := BitVec.ofNat 8 (a.toNat + m.toNat + bitNat cin)

/-- The flags of `add8`: all but I. -/
def Ccr.added8 (f : Ccr) (a m : Byte) (cin : Bool) : Ccr :=
  let r := add8 a m cin
  { f.nz8 r with
    c := decide (256 ≤ a.toNat + m.toNat + bitNat cin)
    hf := decide (16 ≤ a.toNat % 16 + m.toNat % 16 + bitNat cin)
    v := (a.getLsbD 7 == m.getLsbD 7) && (r.getLsbD 7 != a.getLsbD 7) }

/-- `(a - m - bin) mod 2^8`. -/
def sub8 (a m : Byte) (bin : Bool) : Byte := BitVec.ofInt 8 ((a.toNat : Int) - m.toNat - bitNat bin)

/-- The flags of `sub8`: V, N, Z and C. The sum `m + bin` is not reduced before the comparison (R164). -/
def Ccr.subbed8 (f : Ccr) (a m : Byte) (bin : Bool) : Ccr :=
  let r := sub8 a m bin
  { f.nz8 r with
    c := decide (a.toNat < m.toNat + bitNat bin)
    v := (a.getLsbD 7 != m.getLsbD 7) && (r.getLsbD 7 != a.getLsbD 7) }

/-- `(a - m) mod 2^16`. -/
def sub16 (a m : Word) : Word := BitVec.ofInt 16 ((a.toNat : Int) - m.toNat)

/-- The flags of `sub16`: V, N, Z and C, with an unsigned borrow (C1). -/
def Ccr.subbed16 (f : Ccr) (a m : Word) : Ccr :=
  let r := sub16 a m
  { f.nz16 r with
    c := decide (a.toNat < m.toNat)
    v := (a.getLsbD 15 != m.getLsbD 15) && (r.getLsbD 15 != a.getLsbD 15) }

/-! ### One-operand functions: the result and the flags from the operand and the old flags -/

/-- DEC (R180): V exactly when the operand was `$80`; C unchanged. -/
def decByte (v : Byte) (f : Ccr) : Byte × Ccr :=
  (v - 1, { f.nz8 (v - 1) with v := v == 0x80#8 })

/-- INC (R181): V exactly when the operand was `$7F`; C unchanged. -/
def incByte (v : Byte) (f : Ccr) : Byte × Ccr :=
  (v + 1, { f.nz8 (v + 1) with v := v == 0x7F#8 })

/-- NEG (R182): V exactly when the operand was `$80`; C exactly when it was not `$00`. -/
def negByte (v : Byte) (f : Ccr) : Byte × Ccr :=
  (0 - v, { f.nz8 (0 - v) with v := v == 0x80#8, c := v != 0 })

/-- COM (spec/45_logic.md R203): C is set (C12). -/
def comByte (v : Byte) (f : Ccr) : Byte × Ccr := (~~~v, { f.loaded8 (~~~v) with c := true })

/-- The flags of a shift or rotate with result `r` and bit `out` shifted out: V is the exclusive-OR of the
resulting N and C (R190 to R195). -/
def Ccr.shifted (f : Ccr) (r : Byte) (out : Bool) : Ccr :=
  { f.nz8 r with c := out, v := r.getLsbD 7 ^^ out }

/-- LSL and ASL (R190, R192): bit 0 is loaded with 0, C from bit 7. -/
def lslByte (v : Byte) (f : Ccr) : Byte × Ccr := (v <<< 1, f.shifted (v <<< 1) (v.getLsbD 7))

/-- ASR (R191): bit 7 is held, C from bit 0. -/
def asrByte (v : Byte) (f : Ccr) : Byte × Ccr := (v.sshiftRight 1, f.shifted (v.sshiftRight 1) (v.getLsbD 0))

/-- LSR (R193): bit 7 is loaded with 0, C from bit 0. -/
def lsrByte (v : Byte) (f : Ccr) : Byte × Ccr := (v >>> 1, f.shifted (v >>> 1) (v.getLsbD 0))

/-- ROL (R194): bit 0 is loaded from the old C, C from bit 7. -/
def rolByte (v : Byte) (f : Ccr) : Byte × Ccr :=
  let r := (v <<< 1) ||| (if f.c then 0x01#8 else 0x00#8)
  (r, f.shifted r (v.getLsbD 7))

/-- ROR (R195): bit 7 is loaded from the old C, C from bit 0. -/
def rorByte (v : Byte) (f : Ccr) : Byte × Ccr :=
  let r := (v >>> 1) ||| (if f.c then 0x80#8 else 0x00#8)
  (r, f.shifted r (v.getLsbD 0))

end Sys2Proof.Machine
end

