-- ==== Sys2Proof/Syntax.lean ====
section
/-! DEFINITION. The instructions of the CPU08: one constructor for each of the 290 rows of
spec/opcode_table.json, carrying the operand bytes of its row (spec/30_encoding.md R81). Operand names are the
source's letters (spec/00_scope.md R12): `ii` immediate, `dd` direct address, `hhll` extended address, `ff` and
`eeff` offsets, `jjkk` 16-bit immediate, `rr` branch offset; MOV names its two sides. After it, the operand forms
and the rows grouped by operation and form, in which statements speak of a whole family at once. -/

namespace Sys2Proof

/-- One constructor for each row of the opcode table. The suffix is the addressing mode; an inherent row has
none. The rows with operand bytes come first, then the rows without, each family by family: Lean compiles no
constructor with arguments past the 244th. -/
inductive Instr
  -- ROWS WITH OPERAND BYTES
  -- Data movement (spec/40_data_movement.md R121 to R137)
  /-- CLR, DIR, opcode `3F` (R121) -/
  | clrDir (dd : Byte)
  /-- CLR, IX1, opcode `6F` (R121) -/
  | clrIx1 (ff : Byte)
  /-- CLR, SP1, opcode `9E 6F` (R121) -/
  | clrSp1 (ff : Byte)
  /-- LDA, IMM, opcode `A6` (R122) -/
  | ldaImm (ii : Byte)
  /-- LDA, DIR, opcode `B6` (R122) -/
  | ldaDir (dd : Byte)
  /-- LDA, EXT, opcode `C6` (R122) -/
  | ldaExt (hhll : Word)
  /-- LDA, IX2, opcode `D6` (R122) -/
  | ldaIx2 (eeff : Word)
  /-- LDA, IX1, opcode `E6` (R122) -/
  | ldaIx1 (ff : Byte)
  /-- LDA, SP2, opcode `9E D6` (R122) -/
  | ldaSp2 (eeff : Word)
  /-- LDA, SP1, opcode `9E E6` (R122) -/
  | ldaSp1 (ff : Byte)
  /-- STA, DIR, opcode `B7` (R123) -/
  | staDir (dd : Byte)
  /-- STA, EXT, opcode `C7` (R123) -/
  | staExt (hhll : Word)
  /-- STA, IX2, opcode `D7` (R123) -/
  | staIx2 (eeff : Word)
  /-- STA, IX1, opcode `E7` (R123) -/
  | staIx1 (ff : Byte)
  /-- STA, SP2, opcode `9E D7` (R123) -/
  | staSp2 (eeff : Word)
  /-- STA, SP1, opcode `9E E7` (R123) -/
  | staSp1 (ff : Byte)
  /-- LDX, IMM, opcode `AE` (R124) -/
  | ldxImm (ii : Byte)
  /-- LDX, DIR, opcode `BE` (R124) -/
  | ldxDir (dd : Byte)
  /-- LDX, EXT, opcode `CE` (R124) -/
  | ldxExt (hhll : Word)
  /-- LDX, IX2, opcode `DE` (R124) -/
  | ldxIx2 (eeff : Word)
  /-- LDX, IX1, opcode `EE` (R124) -/
  | ldxIx1 (ff : Byte)
  /-- LDX, SP2, opcode `9E DE` (R124) -/
  | ldxSp2 (eeff : Word)
  /-- LDX, SP1, opcode `9E EE` (R124) -/
  | ldxSp1 (ff : Byte)
  /-- STX, DIR, opcode `BF` (R125) -/
  | stxDir (dd : Byte)
  /-- STX, EXT, opcode `CF` (R125) -/
  | stxExt (hhll : Word)
  /-- STX, IX2, opcode `DF` (R125) -/
  | stxIx2 (eeff : Word)
  /-- STX, IX1, opcode `EF` (R125) -/
  | stxIx1 (ff : Byte)
  /-- STX, SP2, opcode `9E DF` (R125) -/
  | stxSp2 (eeff : Word)
  /-- STX, SP1, opcode `9E EF` (R125) -/
  | stxSp1 (ff : Byte)
  /-- LDHX, IMM16, opcode `45` (R129) -/
  | ldhxImm (jjkk : Word)
  /-- LDHX, DIR, opcode `55` (R129) -/
  | ldhxDir (dd : Byte)
  /-- STHX, DIR, opcode `35` (R130) -/
  | sthxDir (dd : Byte)
  /-- MOV, DIR/DIR, opcode `4E` (R131) -/
  | movDirDir (src : Byte) (dst : Byte)
  /-- MOV, DIR/IX+, opcode `5E` (R131) -/
  | movDirIxp (src : Byte)
  /-- MOV, IMM/DIR, opcode `6E` (R131) -/
  | movImmDir (ii : Byte) (dst : Byte)
  /-- MOV, IX+/DIR, opcode `7E` (R131) -/
  | movIxpDir (dst : Byte)
  -- Bit-oriented (spec/41_bit_oriented.md R150, R151)
  /-- BSET 0, DIRB, opcode `10` (R150) -/
  | bset0 (dd : Byte)
  /-- BSET 1, DIRB, opcode `12` (R150) -/
  | bset1 (dd : Byte)
  /-- BSET 2, DIRB, opcode `14` (R150) -/
  | bset2 (dd : Byte)
  /-- BSET 3, DIRB, opcode `16` (R150) -/
  | bset3 (dd : Byte)
  /-- BSET 4, DIRB, opcode `18` (R150) -/
  | bset4 (dd : Byte)
  /-- BSET 5, DIRB, opcode `1A` (R150) -/
  | bset5 (dd : Byte)
  /-- BSET 6, DIRB, opcode `1C` (R150) -/
  | bset6 (dd : Byte)
  /-- BSET 7, DIRB, opcode `1E` (R150) -/
  | bset7 (dd : Byte)
  /-- BCLR 0, DIRB, opcode `11` (R151) -/
  | bclr0 (dd : Byte)
  /-- BCLR 1, DIRB, opcode `13` (R151) -/
  | bclr1 (dd : Byte)
  /-- BCLR 2, DIRB, opcode `15` (R151) -/
  | bclr2 (dd : Byte)
  /-- BCLR 3, DIRB, opcode `17` (R151) -/
  | bclr3 (dd : Byte)
  /-- BCLR 4, DIRB, opcode `19` (R151) -/
  | bclr4 (dd : Byte)
  /-- BCLR 5, DIRB, opcode `1B` (R151) -/
  | bclr5 (dd : Byte)
  /-- BCLR 6, DIRB, opcode `1D` (R151) -/
  | bclr6 (dd : Byte)
  /-- BCLR 7, DIRB, opcode `1F` (R151) -/
  | bclr7 (dd : Byte)
  -- Two-operand arithmetic (spec/42_arithmetic_dyadic.md R161 to R167)
  /-- ADD, IMM, opcode `AB` (R161) -/
  | addImm (ii : Byte)
  /-- ADD, DIR, opcode `BB` (R161) -/
  | addDir (dd : Byte)
  /-- ADD, EXT, opcode `CB` (R161) -/
  | addExt (hhll : Word)
  /-- ADD, IX2, opcode `DB` (R161) -/
  | addIx2 (eeff : Word)
  /-- ADD, IX1, opcode `EB` (R161) -/
  | addIx1 (ff : Byte)
  /-- ADD, SP2, opcode `9E DB` (R161) -/
  | addSp2 (eeff : Word)
  /-- ADD, SP1, opcode `9E EB` (R161) -/
  | addSp1 (ff : Byte)
  /-- SUB, IMM, opcode `A0` (R162) -/
  | subImm (ii : Byte)
  /-- SUB, DIR, opcode `B0` (R162) -/
  | subDir (dd : Byte)
  /-- SUB, EXT, opcode `C0` (R162) -/
  | subExt (hhll : Word)
  /-- SUB, IX2, opcode `D0` (R162) -/
  | subIx2 (eeff : Word)
  /-- SUB, IX1, opcode `E0` (R162) -/
  | subIx1 (ff : Byte)
  /-- SUB, SP2, opcode `9E D0` (R162) -/
  | subSp2 (eeff : Word)
  /-- SUB, SP1, opcode `9E E0` (R162) -/
  | subSp1 (ff : Byte)
  /-- ADC, IMM, opcode `A9` (R163) -/
  | adcImm (ii : Byte)
  /-- ADC, DIR, opcode `B9` (R163) -/
  | adcDir (dd : Byte)
  /-- ADC, EXT, opcode `C9` (R163) -/
  | adcExt (hhll : Word)
  /-- ADC, IX2, opcode `D9` (R163) -/
  | adcIx2 (eeff : Word)
  /-- ADC, IX1, opcode `E9` (R163) -/
  | adcIx1 (ff : Byte)
  /-- ADC, SP2, opcode `9E D9` (R163) -/
  | adcSp2 (eeff : Word)
  /-- ADC, SP1, opcode `9E E9` (R163) -/
  | adcSp1 (ff : Byte)
  /-- SBC, IMM, opcode `A2` (R164) -/
  | sbcImm (ii : Byte)
  /-- SBC, DIR, opcode `B2` (R164) -/
  | sbcDir (dd : Byte)
  /-- SBC, EXT, opcode `C2` (R164) -/
  | sbcExt (hhll : Word)
  /-- SBC, IX2, opcode `D2` (R164) -/
  | sbcIx2 (eeff : Word)
  /-- SBC, IX1, opcode `E2` (R164) -/
  | sbcIx1 (ff : Byte)
  /-- SBC, SP2, opcode `9E D2` (R164) -/
  | sbcSp2 (eeff : Word)
  /-- SBC, SP1, opcode `9E E2` (R164) -/
  | sbcSp1 (ff : Byte)
  -- One-operand arithmetic (spec/43_arithmetic_monadic.md R180 to R184)
  /-- DEC, DIR, opcode `3A` (R180) -/
  | decDir (dd : Byte)
  /-- DEC, IX1, opcode `6A` (R180) -/
  | decIx1 (ff : Byte)
  /-- DEC, SP1, opcode `9E 6A` (R180) -/
  | decSp1 (ff : Byte)
  /-- INC, DIR, opcode `3C` (R181) -/
  | incDir (dd : Byte)
  /-- INC, IX1, opcode `6C` (R181) -/
  | incIx1 (ff : Byte)
  /-- INC, SP1, opcode `9E 6C` (R181) -/
  | incSp1 (ff : Byte)
  /-- NEG, DIR, opcode `30` (R182) -/
  | negDir (dd : Byte)
  /-- NEG, IX1, opcode `60` (R182) -/
  | negIx1 (ff : Byte)
  /-- NEG, SP1, opcode `9E 60` (R182) -/
  | negSp1 (ff : Byte)
  /-- AIS, IMM, opcode `A7` (R183) -/
  | ais (ii : Byte)
  /-- AIX, IMM, opcode `AF` (R184) -/
  | aix (ii : Byte)
  -- Shifts and rotates (spec/44_rotates_shifts.md R190 to R195); ASL is LSL (R108)
  /-- ASR, DIR, opcode `37` (R191) -/
  | asrDir (dd : Byte)
  /-- ASR, IX1, opcode `67` (R191) -/
  | asrIx1 (ff : Byte)
  /-- ASR, SP1, opcode `9E 67` (R191) -/
  | asrSp1 (ff : Byte)
  /-- LSL, DIR, opcode `38` (R192) -/
  | lslDir (dd : Byte)
  /-- LSL, IX1, opcode `68` (R192) -/
  | lslIx1 (ff : Byte)
  /-- LSL, SP1, opcode `9E 68` (R192) -/
  | lslSp1 (ff : Byte)
  /-- LSR, DIR, opcode `34` (R193) -/
  | lsrDir (dd : Byte)
  /-- LSR, IX1, opcode `64` (R193) -/
  | lsrIx1 (ff : Byte)
  /-- LSR, SP1, opcode `9E 64` (R193) -/
  | lsrSp1 (ff : Byte)
  /-- ROL, DIR, opcode `39` (R194) -/
  | rolDir (dd : Byte)
  /-- ROL, IX1, opcode `69` (R194) -/
  | rolIx1 (ff : Byte)
  /-- ROL, SP1, opcode `9E 69` (R194) -/
  | rolSp1 (ff : Byte)
  /-- ROR, DIR, opcode `36` (R195) -/
  | rorDir (dd : Byte)
  /-- ROR, IX1, opcode `66` (R195) -/
  | rorIx1 (ff : Byte)
  /-- ROR, SP1, opcode `9E 66` (R195) -/
  | rorSp1 (ff : Byte)
  -- Logic (spec/45_logic.md R200 to R203)
  /-- AND, IMM, opcode `A4` (R200) -/
  | andImm (ii : Byte)
  /-- AND, DIR, opcode `B4` (R200) -/
  | andDir (dd : Byte)
  /-- AND, EXT, opcode `C4` (R200) -/
  | andExt (hhll : Word)
  /-- AND, IX2, opcode `D4` (R200) -/
  | andIx2 (eeff : Word)
  /-- AND, IX1, opcode `E4` (R200) -/
  | andIx1 (ff : Byte)
  /-- AND, SP2, opcode `9E D4` (R200) -/
  | andSp2 (eeff : Word)
  /-- AND, SP1, opcode `9E E4` (R200) -/
  | andSp1 (ff : Byte)
  /-- ORA, IMM, opcode `AA` (R201) -/
  | oraImm (ii : Byte)
  /-- ORA, DIR, opcode `BA` (R201) -/
  | oraDir (dd : Byte)
  /-- ORA, EXT, opcode `CA` (R201) -/
  | oraExt (hhll : Word)
  /-- ORA, IX2, opcode `DA` (R201) -/
  | oraIx2 (eeff : Word)
  /-- ORA, IX1, opcode `EA` (R201) -/
  | oraIx1 (ff : Byte)
  /-- ORA, SP2, opcode `9E DA` (R201) -/
  | oraSp2 (eeff : Word)
  /-- ORA, SP1, opcode `9E EA` (R201) -/
  | oraSp1 (ff : Byte)
  /-- EOR, IMM, opcode `A8` (R202) -/
  | eorImm (ii : Byte)
  /-- EOR, DIR, opcode `B8` (R202) -/
  | eorDir (dd : Byte)
  /-- EOR, EXT, opcode `C8` (R202) -/
  | eorExt (hhll : Word)
  /-- EOR, IX2, opcode `D8` (R202) -/
  | eorIx2 (eeff : Word)
  /-- EOR, IX1, opcode `E8` (R202) -/
  | eorIx1 (ff : Byte)
  /-- EOR, SP2, opcode `9E D8` (R202) -/
  | eorSp2 (eeff : Word)
  /-- EOR, SP1, opcode `9E E8` (R202) -/
  | eorSp1 (ff : Byte)
  /-- COM, DIR, opcode `33` (R203) -/
  | comDir (dd : Byte)
  /-- COM, IX1, opcode `63` (R203) -/
  | comIx1 (ff : Byte)
  /-- COM, SP1, opcode `9E 63` (R203) -/
  | comSp1 (ff : Byte)
  -- Compare, test, bit test and branch (spec/46_data_compare.md R210 to R216)
  /-- CMP, IMM, opcode `A1` (R210) -/
  | cmpImm (ii : Byte)
  /-- CMP, DIR, opcode `B1` (R210) -/
  | cmpDir (dd : Byte)
  /-- CMP, EXT, opcode `C1` (R210) -/
  | cmpExt (hhll : Word)
  /-- CMP, IX2, opcode `D1` (R210) -/
  | cmpIx2 (eeff : Word)
  /-- CMP, IX1, opcode `E1` (R210) -/
  | cmpIx1 (ff : Byte)
  /-- CMP, SP2, opcode `9E D1` (R210) -/
  | cmpSp2 (eeff : Word)
  /-- CMP, SP1, opcode `9E E1` (R210) -/
  | cmpSp1 (ff : Byte)
  /-- CPX, IMM, opcode `A3` (R211) -/
  | cpxImm (ii : Byte)
  /-- CPX, DIR, opcode `B3` (R211) -/
  | cpxDir (dd : Byte)
  /-- CPX, EXT, opcode `C3` (R211) -/
  | cpxExt (hhll : Word)
  /-- CPX, IX2, opcode `D3` (R211) -/
  | cpxIx2 (eeff : Word)
  /-- CPX, IX1, opcode `E3` (R211) -/
  | cpxIx1 (ff : Byte)
  /-- CPX, SP2, opcode `9E D3` (R211) -/
  | cpxSp2 (eeff : Word)
  /-- CPX, SP1, opcode `9E E3` (R211) -/
  | cpxSp1 (ff : Byte)
  /-- CPHX, IMM16, opcode `65` (R212) -/
  | cphxImm (jjkk : Word)
  /-- CPHX, DIR, opcode `75` (R212) -/
  | cphxDir (dd : Byte)
  /-- BIT, IMM, opcode `A5` (R213) -/
  | bitImm (ii : Byte)
  /-- BIT, DIR, opcode `B5` (R213) -/
  | bitDir (dd : Byte)
  /-- BIT, EXT, opcode `C5` (R213) -/
  | bitExt (hhll : Word)
  /-- BIT, IX2, opcode `D5` (R213) -/
  | bitIx2 (eeff : Word)
  /-- BIT, IX1, opcode `E5` (R213) -/
  | bitIx1 (ff : Byte)
  /-- BIT, SP2, opcode `9E D5` (R213) -/
  | bitSp2 (eeff : Word)
  /-- BIT, SP1, opcode `9E E5` (R213) -/
  | bitSp1 (ff : Byte)
  /-- TST, DIR, opcode `3D` (R214) -/
  | tstDir (dd : Byte)
  /-- TST, IX1, opcode `6D` (R214) -/
  | tstIx1 (ff : Byte)
  /-- TST, SP1, opcode `9E 6D` (R214) -/
  | tstSp1 (ff : Byte)
  /-- BRCLR 0, DIRB_REL, opcode `01` (R215) -/
  | brclr0 (dd : Byte) (rr : Byte)
  /-- BRCLR 1, DIRB_REL, opcode `03` (R215) -/
  | brclr1 (dd : Byte) (rr : Byte)
  /-- BRCLR 2, DIRB_REL, opcode `05` (R215) -/
  | brclr2 (dd : Byte) (rr : Byte)
  /-- BRCLR 3, DIRB_REL, opcode `07` (R215) -/
  | brclr3 (dd : Byte) (rr : Byte)
  /-- BRCLR 4, DIRB_REL, opcode `09` (R215) -/
  | brclr4 (dd : Byte) (rr : Byte)
  /-- BRCLR 5, DIRB_REL, opcode `0B` (R215) -/
  | brclr5 (dd : Byte) (rr : Byte)
  /-- BRCLR 6, DIRB_REL, opcode `0D` (R215) -/
  | brclr6 (dd : Byte) (rr : Byte)
  /-- BRCLR 7, DIRB_REL, opcode `0F` (R215) -/
  | brclr7 (dd : Byte) (rr : Byte)
  /-- BRSET 0, DIRB_REL, opcode `00` (R216) -/
  | brset0 (dd : Byte) (rr : Byte)
  /-- BRSET 1, DIRB_REL, opcode `02` (R216) -/
  | brset1 (dd : Byte) (rr : Byte)
  /-- BRSET 2, DIRB_REL, opcode `04` (R216) -/
  | brset2 (dd : Byte) (rr : Byte)
  /-- BRSET 3, DIRB_REL, opcode `06` (R216) -/
  | brset3 (dd : Byte) (rr : Byte)
  /-- BRSET 4, DIRB_REL, opcode `08` (R216) -/
  | brset4 (dd : Byte) (rr : Byte)
  /-- BRSET 5, DIRB_REL, opcode `0A` (R216) -/
  | brset5 (dd : Byte) (rr : Byte)
  /-- BRSET 6, DIRB_REL, opcode `0C` (R216) -/
  | brset6 (dd : Byte) (rr : Byte)
  /-- BRSET 7, DIRB_REL, opcode `0E` (R216) -/
  | brset7 (dd : Byte) (rr : Byte)
  -- Branches (spec/47_branches.md R231 to R249); BHS is BCC, BLO is BCS (R108)
  /-- BRA, REL, opcode `20` (R231) -/
  | bra (rr : Byte)
  /-- BRN, REL, opcode `21` (R232) -/
  | brn (rr : Byte)
  /-- BEQ, REL, opcode `27` (R233) -/
  | beq (rr : Byte)
  /-- BNE, REL, opcode `26` (R234) -/
  | bne (rr : Byte)
  /-- BSR, REL, opcode `AD` (R235) -/
  | bsr (rr : Byte)
  /-- BHI, REL, opcode `22` (R236) -/
  | bhi (rr : Byte)
  /-- BLS, REL, opcode `23` (R239) -/
  | bls (rr : Byte)
  /-- BPL, REL, opcode `2A` (R240) -/
  | bpl (rr : Byte)
  /-- BMI, REL, opcode `2B` (R241) -/
  | bmi (rr : Byte)
  /-- BCC, REL, opcode `24` (R242) -/
  | bcc (rr : Byte)
  /-- BCS, REL, opcode `25` (R243) -/
  | bcs (rr : Byte)
  /-- BHCC, REL, opcode `28` (R244) -/
  | bhcc (rr : Byte)
  /-- BHCS, REL, opcode `29` (R245) -/
  | bhcs (rr : Byte)
  /-- BMC, REL, opcode `2C` (R246) -/
  | bmc (rr : Byte)
  /-- BMS, REL, opcode `2D` (R247) -/
  | bms (rr : Byte)
  /-- BIH, REL, opcode `2F` (R248) -/
  | bih (rr : Byte)
  /-- BIL, REL, opcode `2E` (R249) -/
  | bil (rr : Byte)
  -- Signed branches, CBEQ, DBNZ (spec/48_signed_branches.md R260 to R265)
  /-- BGE, REL, opcode `90` (R260) -/
  | bge (rr : Byte)
  /-- BGT, REL, opcode `92` (R261) -/
  | bgt (rr : Byte)
  /-- BLE, REL, opcode `93` (R262) -/
  | ble (rr : Byte)
  /-- BLT, REL, opcode `91` (R263) -/
  | blt (rr : Byte)
  /-- CBEQ, DIR_REL, opcode `31` (R264) -/
  | cbeqDir (dd : Byte) (rr : Byte)
  /-- CBEQA, IMM_REL, opcode `41` (R264) -/
  | cbeqa (ii : Byte) (rr : Byte)
  /-- CBEQX, IMM_REL, opcode `51` (R264) -/
  | cbeqx (ii : Byte) (rr : Byte)
  /-- CBEQ, IX1+_REL, opcode `61` (R264) -/
  | cbeqIx1p (ff : Byte) (rr : Byte)
  /-- CBEQ, IX+_REL, opcode `71` (R264) -/
  | cbeqIxp (rr : Byte)
  /-- CBEQ, SP1_REL, opcode `9E 61` (R264) -/
  | cbeqSp1 (ff : Byte) (rr : Byte)
  /-- DBNZ, DIR_REL, opcode `3B` (R265) -/
  | dbnzDir (dd : Byte) (rr : Byte)
  /-- DBNZA, INH_REL, opcode `4B` (R265) -/
  | dbnza (rr : Byte)
  /-- DBNZX, INH_REL, opcode `5B` (R265) -/
  | dbnzx (rr : Byte)
  /-- DBNZ, IX1_REL, opcode `6B` (R265) -/
  | dbnzIx1 (ff : Byte) (rr : Byte)
  /-- DBNZ, IX_REL, opcode `7B` (R265) -/
  | dbnzIx (rr : Byte)
  /-- DBNZ, SP1_REL, opcode `9E 6B` (R265) -/
  | dbnzSp1 (ff : Byte) (rr : Byte)
  -- Jumps, returns and control (spec/49_jump_return_control.md R280 to R296)
  /-- JMP, DIR, opcode `BC` (R280) -/
  | jmpDir (dd : Byte)
  /-- JMP, EXT, opcode `CC` (R280) -/
  | jmpExt (hhll : Word)
  /-- JMP, IX2, opcode `DC` (R280) -/
  | jmpIx2 (eeff : Word)
  /-- JMP, IX1, opcode `EC` (R280) -/
  | jmpIx1 (ff : Byte)
  /-- JSR, DIR, opcode `BD` (R281) -/
  | jsrDir (dd : Byte)
  /-- JSR, EXT, opcode `CD` (R281) -/
  | jsrExt (hhll : Word)
  /-- JSR, IX2, opcode `DD` (R281) -/
  | jsrIx2 (eeff : Word)
  /-- JSR, IX1, opcode `ED` (R281) -/
  | jsrIx1 (ff : Byte)
  -- ROWS WITHOUT OPERAND BYTES
  -- Data movement (spec/40_data_movement.md R121 to R137)
  /-- CLRA, INH, opcode `4F` (R121) -/
  | clra
  /-- CLRX, INH, opcode `5F` (R121) -/
  | clrx
  /-- CLRH, INH, opcode `8C` (R121) -/
  | clrh
  /-- CLR, IX, opcode `7F` (R121) -/
  | clrIx
  /-- LDA, IX, opcode `F6` (R122) -/
  | ldaIx
  /-- STA, IX, opcode `F7` (R123) -/
  | staIx
  /-- LDX, IX, opcode `FE` (R124) -/
  | ldxIx
  /-- STX, IX, opcode `FF` (R125) -/
  | stxIx
  /-- NSA, INH, opcode `62` (R126) -/
  | nsa
  /-- TAX, INH, opcode `97` (R127) -/
  | tax
  /-- TXA, INH, opcode `9F` (R128) -/
  | txa
  /-- PSHA, INH, opcode `87` (R132) -/
  | psha
  /-- PULA, INH, opcode `86` (R133) -/
  | pula
  /-- PSHH, INH, opcode `8B` (R134) -/
  | pshh
  /-- PULH, INH, opcode `8A` (R135) -/
  | pulh
  /-- PSHX, INH, opcode `89` (R136) -/
  | pshx
  /-- PULX, INH, opcode `88` (R137) -/
  | pulx
  -- Two-operand arithmetic (spec/42_arithmetic_dyadic.md R161 to R167)
  /-- ADD, IX, opcode `FB` (R161) -/
  | addIx
  /-- SUB, IX, opcode `F0` (R162) -/
  | subIx
  /-- ADC, IX, opcode `F9` (R163) -/
  | adcIx
  /-- SBC, IX, opcode `F2` (R164) -/
  | sbcIx
  /-- DAA, INH, opcode `72` (R165) -/
  | daa
  /-- MUL, INH, opcode `42` (R166) -/
  | mul
  /-- DIV, INH, opcode `52` (R167) -/
  | div
  -- One-operand arithmetic (spec/43_arithmetic_monadic.md R180 to R184)
  /-- DECA, INH, opcode `4A` (R180) -/
  | deca
  /-- DECX, INH, opcode `5A` (R180) -/
  | decx
  /-- DEC, IX, opcode `7A` (R180) -/
  | decIx
  /-- INCA, INH, opcode `4C` (R181) -/
  | inca
  /-- INCX, INH, opcode `5C` (R181) -/
  | incx
  /-- INC, IX, opcode `7C` (R181) -/
  | incIx
  /-- NEGA, INH, opcode `40` (R182) -/
  | nega
  /-- NEGX, INH, opcode `50` (R182) -/
  | negx
  /-- NEG, IX, opcode `70` (R182) -/
  | negIx
  -- Shifts and rotates (spec/44_rotates_shifts.md R190 to R195); ASL is LSL (R108)
  /-- ASRA, INH, opcode `47` (R191) -/
  | asra
  /-- ASRX, INH, opcode `57` (R191) -/
  | asrx
  /-- ASR, IX, opcode `77` (R191) -/
  | asrIx
  /-- LSLA, INH, opcode `48` (R192) -/
  | lsla
  /-- LSLX, INH, opcode `58` (R192) -/
  | lslx
  /-- LSL, IX, opcode `78` (R192) -/
  | lslIx
  /-- LSRA, INH, opcode `44` (R193) -/
  | lsra
  /-- LSRX, INH, opcode `54` (R193) -/
  | lsrx
  /-- LSR, IX, opcode `74` (R193) -/
  | lsrIx
  /-- ROLA, INH, opcode `49` (R194) -/
  | rola
  /-- ROLX, INH, opcode `59` (R194) -/
  | rolx
  /-- ROL, IX, opcode `79` (R194) -/
  | rolIx
  /-- RORA, INH, opcode `46` (R195) -/
  | rora
  /-- RORX, INH, opcode `56` (R195) -/
  | rorx
  /-- ROR, IX, opcode `76` (R195) -/
  | rorIx
  -- Logic (spec/45_logic.md R200 to R203)
  /-- AND, IX, opcode `F4` (R200) -/
  | andIx
  /-- ORA, IX, opcode `FA` (R201) -/
  | oraIx
  /-- EOR, IX, opcode `F8` (R202) -/
  | eorIx
  /-- COMA, INH, opcode `43` (R203) -/
  | coma
  /-- COMX, INH, opcode `53` (R203) -/
  | comx
  /-- COM, IX, opcode `73` (R203) -/
  | comIx
  -- Compare, test, bit test and branch (spec/46_data_compare.md R210 to R216)
  /-- CMP, IX, opcode `F1` (R210) -/
  | cmpIx
  /-- CPX, IX, opcode `F3` (R211) -/
  | cpxIx
  /-- BIT, IX, opcode `F5` (R213) -/
  | bitIx
  /-- TSTA, INH, opcode `4D` (R214) -/
  | tsta
  /-- TSTX, INH, opcode `5D` (R214) -/
  | tstx
  /-- TST, IX, opcode `7D` (R214) -/
  | tstIx
  -- Jumps, returns and control (spec/49_jump_return_control.md R280 to R296)
  /-- JMP, IX, opcode `FC` (R280) -/
  | jmpIx
  /-- JSR, IX, opcode `FD` (R281) -/
  | jsrIx
  /-- RTS, INH, opcode `81` (R282) -/
  | rts
  /-- SEC, INH, opcode `99` (R283) -/
  | sec
  /-- CLC, INH, opcode `98` (R284) -/
  | clc
  /-- CLI, INH, opcode `9A` (R285) -/
  | cli
  /-- SEI, INH, opcode `9B` (R286) -/
  | sei
  /-- SWI, INH, opcode `83` (R287) -/
  | swi
  /-- RTI, INH, opcode `80` (R288) -/
  | rti
  /-- RSP, INH, opcode `9C` (R289) -/
  | rsp
  /-- NOP, INH, opcode `9D` (R290) -/
  | nop
  /-- WAIT, INH, opcode `8F` (R291) -/
  | wait
  /-- STOP, INH, opcode `8E` (R292) -/
  | stop
  /-- TAP, INH, opcode `84` (R293) -/
  | tap
  /-- TPA, INH, opcode `85` (R294) -/
  | tpa
  /-- TXS, INH, opcode `94` (R295) -/
  | txs
  /-- TSX, INH, opcode `95` (R296) -/
  | tsx
deriving DecidableEq, Repr

/-! ### Operand forms -/

/-- The operand forms in memory that the accumulator instructions share (R87 to R91, R94, R95). -/
inductive Ea
  | dir (dd : Byte)
  | ext (hhll : Word)
  | ix2 (eeff : Word)
  | ix1 (ff : Byte)
  | ix
  | sp2 (eeff : Word)
  | sp1 (ff : Byte)
deriving DecidableEq, Repr

/-- A source operand: an immediate byte (R86) or a byte of memory. -/
inductive Src
  | imm (ii : Byte)
  | mem (e : Ea)
deriving DecidableEq, Repr

/-- The six places a one-operand instruction works on (spec/44_rotates_shifts.md R189). -/
inductive Place
  | a
  | x
  | dir (dd : Byte)
  | ix1 (ff : Byte)
  | ix
  | sp1 (ff : Byte)
deriving DecidableEq, Repr

/-- The five forms of a jump's address (R280). -/
inductive JumpForm
  | dir (dd : Byte)
  | ext (hhll : Word)
  | ix2 (eeff : Word)
  | ix1 (ff : Byte)
  | ix
deriving DecidableEq, Repr

/-! ### The rows by operation and form -/

/-- The operations with eight source forms (R101 (a)). -/
inductive SrcOp
  | sub | cmp | sbc | cpx | and | bit | lda | eor | adc | ora | add | ldx
deriving DecidableEq, Repr

/-- The operations with six places (R101 (b)). -/
inductive PlaceOp
  | neg | com | lsr | ror | asr | lsl | rol | dec | inc | tst | clr
deriving DecidableEq, Repr

/-- The tests of the twenty relative branches (R250). -/
inductive Cond
  | always | never | hi | ls | cc | cs | ne | eq | hcc | hcs | pl | mi | mc | ms | il | ih | ge | lt | gt | le
deriving DecidableEq, Repr

/-- The row of an operation with a source operand. -/
def Instr.ofSrc (op : SrcOp) (o : Src) : Instr :=
  match op, o with
  | .sub, .imm ii => .subImm ii
  | .sub, .mem (.dir dd) => .subDir dd
  | .sub, .mem (.ext hhll) => .subExt hhll
  | .sub, .mem (.ix2 eeff) => .subIx2 eeff
  | .sub, .mem (.ix1 ff) => .subIx1 ff
  | .sub, .mem .ix => .subIx
  | .sub, .mem (.sp2 eeff) => .subSp2 eeff
  | .sub, .mem (.sp1 ff) => .subSp1 ff
  | .cmp, .imm ii => .cmpImm ii
  | .cmp, .mem (.dir dd) => .cmpDir dd
  | .cmp, .mem (.ext hhll) => .cmpExt hhll
  | .cmp, .mem (.ix2 eeff) => .cmpIx2 eeff
  | .cmp, .mem (.ix1 ff) => .cmpIx1 ff
  | .cmp, .mem .ix => .cmpIx
  | .cmp, .mem (.sp2 eeff) => .cmpSp2 eeff
  | .cmp, .mem (.sp1 ff) => .cmpSp1 ff
  | .sbc, .imm ii => .sbcImm ii
  | .sbc, .mem (.dir dd) => .sbcDir dd
  | .sbc, .mem (.ext hhll) => .sbcExt hhll
  | .sbc, .mem (.ix2 eeff) => .sbcIx2 eeff
  | .sbc, .mem (.ix1 ff) => .sbcIx1 ff
  | .sbc, .mem .ix => .sbcIx
  | .sbc, .mem (.sp2 eeff) => .sbcSp2 eeff
  | .sbc, .mem (.sp1 ff) => .sbcSp1 ff
  | .cpx, .imm ii => .cpxImm ii
  | .cpx, .mem (.dir dd) => .cpxDir dd
  | .cpx, .mem (.ext hhll) => .cpxExt hhll
  | .cpx, .mem (.ix2 eeff) => .cpxIx2 eeff
  | .cpx, .mem (.ix1 ff) => .cpxIx1 ff
  | .cpx, .mem .ix => .cpxIx
  | .cpx, .mem (.sp2 eeff) => .cpxSp2 eeff
  | .cpx, .mem (.sp1 ff) => .cpxSp1 ff
  | .and, .imm ii => .andImm ii
  | .and, .mem (.dir dd) => .andDir dd
  | .and, .mem (.ext hhll) => .andExt hhll
  | .and, .mem (.ix2 eeff) => .andIx2 eeff
  | .and, .mem (.ix1 ff) => .andIx1 ff
  | .and, .mem .ix => .andIx
  | .and, .mem (.sp2 eeff) => .andSp2 eeff
  | .and, .mem (.sp1 ff) => .andSp1 ff
  | .bit, .imm ii => .bitImm ii
  | .bit, .mem (.dir dd) => .bitDir dd
  | .bit, .mem (.ext hhll) => .bitExt hhll
  | .bit, .mem (.ix2 eeff) => .bitIx2 eeff
  | .bit, .mem (.ix1 ff) => .bitIx1 ff
  | .bit, .mem .ix => .bitIx
  | .bit, .mem (.sp2 eeff) => .bitSp2 eeff
  | .bit, .mem (.sp1 ff) => .bitSp1 ff
  | .lda, .imm ii => .ldaImm ii
  | .lda, .mem (.dir dd) => .ldaDir dd
  | .lda, .mem (.ext hhll) => .ldaExt hhll
  | .lda, .mem (.ix2 eeff) => .ldaIx2 eeff
  | .lda, .mem (.ix1 ff) => .ldaIx1 ff
  | .lda, .mem .ix => .ldaIx
  | .lda, .mem (.sp2 eeff) => .ldaSp2 eeff
  | .lda, .mem (.sp1 ff) => .ldaSp1 ff
  | .eor, .imm ii => .eorImm ii
  | .eor, .mem (.dir dd) => .eorDir dd
  | .eor, .mem (.ext hhll) => .eorExt hhll
  | .eor, .mem (.ix2 eeff) => .eorIx2 eeff
  | .eor, .mem (.ix1 ff) => .eorIx1 ff
  | .eor, .mem .ix => .eorIx
  | .eor, .mem (.sp2 eeff) => .eorSp2 eeff
  | .eor, .mem (.sp1 ff) => .eorSp1 ff
  | .adc, .imm ii => .adcImm ii
  | .adc, .mem (.dir dd) => .adcDir dd
  | .adc, .mem (.ext hhll) => .adcExt hhll
  | .adc, .mem (.ix2 eeff) => .adcIx2 eeff
  | .adc, .mem (.ix1 ff) => .adcIx1 ff
  | .adc, .mem .ix => .adcIx
  | .adc, .mem (.sp2 eeff) => .adcSp2 eeff
  | .adc, .mem (.sp1 ff) => .adcSp1 ff
  | .ora, .imm ii => .oraImm ii
  | .ora, .mem (.dir dd) => .oraDir dd
  | .ora, .mem (.ext hhll) => .oraExt hhll
  | .ora, .mem (.ix2 eeff) => .oraIx2 eeff
  | .ora, .mem (.ix1 ff) => .oraIx1 ff
  | .ora, .mem .ix => .oraIx
  | .ora, .mem (.sp2 eeff) => .oraSp2 eeff
  | .ora, .mem (.sp1 ff) => .oraSp1 ff
  | .add, .imm ii => .addImm ii
  | .add, .mem (.dir dd) => .addDir dd
  | .add, .mem (.ext hhll) => .addExt hhll
  | .add, .mem (.ix2 eeff) => .addIx2 eeff
  | .add, .mem (.ix1 ff) => .addIx1 ff
  | .add, .mem .ix => .addIx
  | .add, .mem (.sp2 eeff) => .addSp2 eeff
  | .add, .mem (.sp1 ff) => .addSp1 ff
  | .ldx, .imm ii => .ldxImm ii
  | .ldx, .mem (.dir dd) => .ldxDir dd
  | .ldx, .mem (.ext hhll) => .ldxExt hhll
  | .ldx, .mem (.ix2 eeff) => .ldxIx2 eeff
  | .ldx, .mem (.ix1 ff) => .ldxIx1 ff
  | .ldx, .mem .ix => .ldxIx
  | .ldx, .mem (.sp2 eeff) => .ldxSp2 eeff
  | .ldx, .mem (.sp1 ff) => .ldxSp1 ff

/-- The row of STA with a destination in memory. -/
def Instr.ofSta (e : Ea) : Instr :=
  match e with
  | .dir dd => .staDir dd
  | .ext hhll => .staExt hhll
  | .ix2 eeff => .staIx2 eeff
  | .ix1 ff => .staIx1 ff
  | .ix => .staIx
  | .sp2 eeff => .staSp2 eeff
  | .sp1 ff => .staSp1 ff

/-- The row of STX with a destination in memory. -/
def Instr.ofStx (e : Ea) : Instr :=
  match e with
  | .dir dd => .stxDir dd
  | .ext hhll => .stxExt hhll
  | .ix2 eeff => .stxIx2 eeff
  | .ix1 ff => .stxIx1 ff
  | .ix => .stxIx
  | .sp2 eeff => .stxSp2 eeff
  | .sp1 ff => .stxSp1 ff

/-- The row of an operation on a place. -/
def Instr.ofPlace (op : PlaceOp) (p : Place) : Instr :=
  match op, p with
  | .neg, .a => .nega
  | .neg, .x => .negx
  | .neg, .dir dd => .negDir dd
  | .neg, .ix1 ff => .negIx1 ff
  | .neg, .ix => .negIx
  | .neg, .sp1 ff => .negSp1 ff
  | .com, .a => .coma
  | .com, .x => .comx
  | .com, .dir dd => .comDir dd
  | .com, .ix1 ff => .comIx1 ff
  | .com, .ix => .comIx
  | .com, .sp1 ff => .comSp1 ff
  | .lsr, .a => .lsra
  | .lsr, .x => .lsrx
  | .lsr, .dir dd => .lsrDir dd
  | .lsr, .ix1 ff => .lsrIx1 ff
  | .lsr, .ix => .lsrIx
  | .lsr, .sp1 ff => .lsrSp1 ff
  | .ror, .a => .rora
  | .ror, .x => .rorx
  | .ror, .dir dd => .rorDir dd
  | .ror, .ix1 ff => .rorIx1 ff
  | .ror, .ix => .rorIx
  | .ror, .sp1 ff => .rorSp1 ff
  | .asr, .a => .asra
  | .asr, .x => .asrx
  | .asr, .dir dd => .asrDir dd
  | .asr, .ix1 ff => .asrIx1 ff
  | .asr, .ix => .asrIx
  | .asr, .sp1 ff => .asrSp1 ff
  | .lsl, .a => .lsla
  | .lsl, .x => .lslx
  | .lsl, .dir dd => .lslDir dd
  | .lsl, .ix1 ff => .lslIx1 ff
  | .lsl, .ix => .lslIx
  | .lsl, .sp1 ff => .lslSp1 ff
  | .rol, .a => .rola
  | .rol, .x => .rolx
  | .rol, .dir dd => .rolDir dd
  | .rol, .ix1 ff => .rolIx1 ff
  | .rol, .ix => .rolIx
  | .rol, .sp1 ff => .rolSp1 ff
  | .dec, .a => .deca
  | .dec, .x => .decx
  | .dec, .dir dd => .decDir dd
  | .dec, .ix1 ff => .decIx1 ff
  | .dec, .ix => .decIx
  | .dec, .sp1 ff => .decSp1 ff
  | .inc, .a => .inca
  | .inc, .x => .incx
  | .inc, .dir dd => .incDir dd
  | .inc, .ix1 ff => .incIx1 ff
  | .inc, .ix => .incIx
  | .inc, .sp1 ff => .incSp1 ff
  | .tst, .a => .tsta
  | .tst, .x => .tstx
  | .tst, .dir dd => .tstDir dd
  | .tst, .ix1 ff => .tstIx1 ff
  | .tst, .ix => .tstIx
  | .tst, .sp1 ff => .tstSp1 ff
  | .clr, .a => .clra
  | .clr, .x => .clrx
  | .clr, .dir dd => .clrDir dd
  | .clr, .ix1 ff => .clrIx1 ff
  | .clr, .ix => .clrIx
  | .clr, .sp1 ff => .clrSp1 ff

/-- The row of DBNZ on a place. -/
def Instr.ofDbnz (p : Place) (rr : Byte) : Instr :=
  match p with
  | .a => .dbnza rr
  | .x => .dbnzx rr
  | .dir dd => .dbnzDir dd rr
  | .ix1 ff => .dbnzIx1 ff rr
  | .ix => .dbnzIx rr
  | .sp1 ff => .dbnzSp1 ff rr

/-- The row of JMP with a form of address. -/
def Instr.ofJmp (j : JumpForm) : Instr :=
  match j with
  | .dir dd => .jmpDir dd
  | .ext hhll => .jmpExt hhll
  | .ix2 eeff => .jmpIx2 eeff
  | .ix1 ff => .jmpIx1 ff
  | .ix => .jmpIx

/-- The row of JSR with a form of address. -/
def Instr.ofJsr (j : JumpForm) : Instr :=
  match j with
  | .dir dd => .jsrDir dd
  | .ext hhll => .jsrExt hhll
  | .ix2 eeff => .jsrIx2 eeff
  | .ix1 ff => .jsrIx1 ff
  | .ix => .jsrIx

/-- The row of BSET with a bit number (R98). -/
def Instr.ofBset (n : Fin 8) (dd : Byte) : Instr :=
  match n with
  | 0 => .bset0 dd
  | 1 => .bset1 dd
  | 2 => .bset2 dd
  | 3 => .bset3 dd
  | 4 => .bset4 dd
  | 5 => .bset5 dd
  | 6 => .bset6 dd
  | 7 => .bset7 dd

/-- The row of BCLR with a bit number (R98). -/
def Instr.ofBclr (n : Fin 8) (dd : Byte) : Instr :=
  match n with
  | 0 => .bclr0 dd
  | 1 => .bclr1 dd
  | 2 => .bclr2 dd
  | 3 => .bclr3 dd
  | 4 => .bclr4 dd
  | 5 => .bclr5 dd
  | 6 => .bclr6 dd
  | 7 => .bclr7 dd

/-- The row of BRSET with a bit number (R98). -/
def Instr.ofBrset (n : Fin 8) (dd : Byte) (rr : Byte) : Instr :=
  match n with
  | 0 => .brset0 dd rr
  | 1 => .brset1 dd rr
  | 2 => .brset2 dd rr
  | 3 => .brset3 dd rr
  | 4 => .brset4 dd rr
  | 5 => .brset5 dd rr
  | 6 => .brset6 dd rr
  | 7 => .brset7 dd rr

/-- The row of BRCLR with a bit number (R98). -/
def Instr.ofBrclr (n : Fin 8) (dd : Byte) (rr : Byte) : Instr :=
  match n with
  | 0 => .brclr0 dd rr
  | 1 => .brclr1 dd rr
  | 2 => .brclr2 dd rr
  | 3 => .brclr3 dd rr
  | 4 => .brclr4 dd rr
  | 5 => .brclr5 dd rr
  | 6 => .brclr6 dd rr
  | 7 => .brclr7 dd rr

/-- The row of a relative branch with a test. -/
def Instr.ofCond (t : Cond) (rr : Byte) : Instr :=
  match t with
  | .always => .bra rr
  | .never => .brn rr
  | .hi => .bhi rr
  | .ls => .bls rr
  | .cc => .bcc rr
  | .cs => .bcs rr
  | .ne => .bne rr
  | .eq => .beq rr
  | .hcc => .bhcc rr
  | .hcs => .bhcs rr
  | .pl => .bpl rr
  | .mi => .bmi rr
  | .mc => .bmc rr
  | .ms => .bms rr
  | .il => .bil rr
  | .ih => .bih rr
  | .ge => .bge rr
  | .lt => .blt rr
  | .gt => .bgt rr
  | .le => .ble rr

end Sys2Proof
end

