-- ==== Sys2Proof/Machine/Operands.lean ====
section
/-! DEFINITION. The operand forms: how each addressing mode finds its operand (spec/30_encoding.md R85 to
R95), how long the instruction is that uses it (R84), and how an operand is read and written back
(spec/44_rotates_shifts.md R189). -/

namespace Sys2Proof.Machine

/-! ### Effective addresses -/

/-- The effective address (R87 to R95): sums wrap modulo 2^16 (D3), 8-bit offsets are unsigned (D4). -/
def eaOf (e : Ea) (s : State) : Word :=
  match e with
  | .dir dd => zext16 dd
  | .ext hhll => hhll
  | .ix2 eeff => s.hx + eeff
  | .ix1 ff => s.hx + zext16 ff
  | .ix => s.hx
  | .sp2 eeff => s.sp + eeff
  | .sp1 ff => s.sp + zext16 ff

/-- The length of an instruction whose one operand has this form (R84). -/
def eaLen (e : Ea) : Nat :=
  match e with
  | .dir _ => 2
  | .ext _ => 3
  | .ix2 _ => 3
  | .ix1 _ => 2
  | .ix => 1
  | .sp2 _ => 4
  | .sp1 _ => 3

/-! ### Source operands: an immediate byte or a byte of memory -/

/-- The operand `M` (R86, R120 (a)). -/
def srcValue (o : Src) (s : State) : Byte :=
  match o with
  | .imm ii => ii
  | .mem e => s.readValue (eaOf e s)

/-- The state after the operand is read: an immediate reads no data memory (R86). -/
def srcAfter (o : Src) (s : State) : State :=
  match o with
  | .imm _ => s
  | .mem e => s.afterRead (eaOf e s)

/-- Reading the operand completes. -/
def srcReadable (o : Src) (s : State) : Prop :=
  match o with
  | .imm _ => True
  | .mem e => s.readable (eaOf e s)

/-- The length of the instruction (R84). -/
def srcLen (o : Src) : Nat :=
  match o with
  | .imm _ => 2
  | .mem e => eaLen e

/-- Reads the operand. -/
def loadSrc (o : Src) (s : State) : Except Stop (Byte × State) :=
  match o with
  | .imm ii => .ok (ii, s)
  | .mem e => readByte (eaOf e s) s

/-! ### Places: A, X or a byte of memory that is read and written back (R189) -/

/-- The memory form of a place, if it is in memory. -/
def placeEa (p : Place) : Option Ea :=
  match p with
  | .a => none
  | .x => none
  | .dir dd => some (.dir dd)
  | .ix1 ff => some (.ix1 ff)
  | .ix => some .ix
  | .sp1 ff => some (.sp1 ff)

/-- The length of an instruction whose one operand is this place (R84). -/
def placeLen (p : Place) : Nat :=
  match placeEa p with
  | none => 1
  | some e => eaLen e

/-- The byte the place holds, as a read gives it. -/
def placeValue (p : Place) (s : State) : Byte :=
  match p, placeEa p with
  | _, some e => s.readValue (eaOf e s)
  | .a, none => s.a
  | _, none => s.x

/-- The state after the place is read. -/
def placeAfter (p : Place) (s : State) : State :=
  match placeEa p with
  | some e => s.afterRead (eaOf e s)
  | none => s

/-- The state after a byte is written to the place, where that completes. -/
def placePut (p : Place) (v : Byte) (s : State) : State :=
  match p, placeEa p with
  | _, some e => s.afterWrite (eaOf e s) v
  | .a, none => { s with a := v }
  | _, none => { s with x := v }

/-- Reading the place completes. -/
def placeReadable (p : Place) (s : State) : Prop :=
  match placeEa p with
  | some e => s.readable (eaOf e s)
  | none => True

/-- Writing the place completes. -/
def placeWritable (p : Place) (s : State) : Prop :=
  match placeEa p with
  | some e => s.writable (eaOf e s)
  | none => True

/-- Reads the place. -/
def loadPlace (p : Place) (s : State) : Except Stop (Byte × State) :=
  match p, placeEa p with
  | _, some e => readByte (eaOf e s) s
  | .a, none => .ok (s.a, s)
  | _, none => .ok (s.x, s)

/-- Writes the place; X alone is written, never H (spec/10_state.md R22). -/
def storePlace (p : Place) (v : Byte) (s : State) : Except Stop State :=
  match p, placeEa p with
  | _, some e => writeByte (eaOf e s) v s
  | .a, none => .ok { s with a := v }
  | _, none => .ok { s with x := v }

/-- A READ-MODIFY-WRITE instruction (spec/20_memory.md R65): one read, then one write of the result to the same
place. `f` gives the result and the flags from the operand and the old flags. -/
def modifyPlace (p : Place) (f : Byte → Ccr → Byte × Ccr) (s : State) : Except Stop State := do
  let (v, s1) ← loadPlace p s
  let s2 ← storePlace p (f v s.ccr).1 s1
  .ok { s2 with ccr := (f v s.ccr).2, pc := s.npc (placeLen p) }

/-- The post-increment of the X+ modes (R92, R93): a 16-bit increment of H:X. -/
def State.bumpHx (s : State) : State := s.setHx (s.hx + 1)

/-- The effective address of JMP and JSR (spec/49_jump_return_control.md R280). -/
def jumpEa (j : JumpForm) : Ea :=
  match j with
  | .dir dd => .dir dd
  | .ext hhll => .ext hhll
  | .ix2 eeff => .ix2 eeff
  | .ix1 ff => .ix1 ff
  | .ix => .ix

end Sys2Proof.Machine
end

