-- ==== Sys2Proof/Machine/ArithDyadic.lean ====
section
/-! DEFINITION. Two-operand arithmetic: ADD, SUB, ADC, SBC, DAA, MUL, DIV (spec/42_arithmetic_dyadic.md R161 to R167). -/

namespace Sys2Proof.Machine

/-- ADD and ADC with the carry in that each uses (R161, R163). -/
def addA (cin : Bool) (o : Src) (s : State) : Except Stop State := do
  let (m, s1) ← loadSrc o s
  .ok { s1 with a := add8 s.a m cin, ccr := s.ccr.added8 s.a m cin, pc := s.npc (srcLen o) }

/-- SUB and SBC with the borrow in that each uses (R162, R164). -/
def subA (bin : Bool) (o : Src) (s : State) : Except Stop State := do
  let (m, s1) ← loadSrc o s
  .ok { s1 with a := sub8 s.a m bin, ccr := s.ccr.subbed8 s.a m bin, pc := s.npc (srcLen o) }

/-- ADD, IMM, `AB` `ii` (R161). -/
def execAddImm (ii : Byte) (s : State) : Host.Outcome State Fault Refusal :=
  finish (addA false (.imm ii) s)

/-- ADD, DIR, `BB` `dd` (R161). -/
def execAddDir (dd : Byte) (s : State) : Host.Outcome State Fault Refusal :=
  finish (addA false (.mem (.dir dd)) s)

/-- ADD, EXT, `CB` `hh ll` (R161). -/
def execAddExt (hhll : Word) (s : State) : Host.Outcome State Fault Refusal :=
  finish (addA false (.mem (.ext hhll)) s)

/-- ADD, IX2, `DB` `ee ff` (R161). -/
def execAddIx2 (eeff : Word) (s : State) : Host.Outcome State Fault Refusal :=
  finish (addA false (.mem (.ix2 eeff)) s)

/-- ADD, IX1, `EB` `ff` (R161). -/
def execAddIx1 (ff : Byte) (s : State) : Host.Outcome State Fault Refusal :=
  finish (addA false (.mem (.ix1 ff)) s)

/-- ADD, IX, `FB` (R161). -/
def execAddIx (s : State) : Host.Outcome State Fault Refusal :=
  finish (addA false (.mem .ix) s)

/-- ADD, SP2, `9E DB` `ee ff` (R161). -/
def execAddSp2 (eeff : Word) (s : State) : Host.Outcome State Fault Refusal :=
  finish (addA false (.mem (.sp2 eeff)) s)

/-- ADD, SP1, `9E EB` `ff` (R161). -/
def execAddSp1 (ff : Byte) (s : State) : Host.Outcome State Fault Refusal :=
  finish (addA false (.mem (.sp1 ff)) s)

/-- SUB, IMM, `A0` `ii` (R162). -/
def execSubImm (ii : Byte) (s : State) : Host.Outcome State Fault Refusal :=
  finish (subA false (.imm ii) s)

/-- SUB, DIR, `B0` `dd` (R162). -/
def execSubDir (dd : Byte) (s : State) : Host.Outcome State Fault Refusal :=
  finish (subA false (.mem (.dir dd)) s)

/-- SUB, EXT, `C0` `hh ll` (R162). -/
def execSubExt (hhll : Word) (s : State) : Host.Outcome State Fault Refusal :=
  finish (subA false (.mem (.ext hhll)) s)

/-- SUB, IX2, `D0` `ee ff` (R162). -/
def execSubIx2 (eeff : Word) (s : State) : Host.Outcome State Fault Refusal :=
  finish (subA false (.mem (.ix2 eeff)) s)

/-- SUB, IX1, `E0` `ff` (R162). -/
def execSubIx1 (ff : Byte) (s : State) : Host.Outcome State Fault Refusal :=
  finish (subA false (.mem (.ix1 ff)) s)

/-- SUB, IX, `F0` (R162). -/
def execSubIx (s : State) : Host.Outcome State Fault Refusal :=
  finish (subA false (.mem .ix) s)

/-- SUB, SP2, `9E D0` `ee ff` (R162). -/
def execSubSp2 (eeff : Word) (s : State) : Host.Outcome State Fault Refusal :=
  finish (subA false (.mem (.sp2 eeff)) s)

/-- SUB, SP1, `9E E0` `ff` (R162). -/
def execSubSp1 (ff : Byte) (s : State) : Host.Outcome State Fault Refusal :=
  finish (subA false (.mem (.sp1 ff)) s)

/-- ADC, IMM, `A9` `ii` (R163). -/
def execAdcImm (ii : Byte) (s : State) : Host.Outcome State Fault Refusal :=
  finish (addA s.ccr.c (.imm ii) s)

/-- ADC, DIR, `B9` `dd` (R163). -/
def execAdcDir (dd : Byte) (s : State) : Host.Outcome State Fault Refusal :=
  finish (addA s.ccr.c (.mem (.dir dd)) s)

/-- ADC, EXT, `C9` `hh ll` (R163). -/
def execAdcExt (hhll : Word) (s : State) : Host.Outcome State Fault Refusal :=
  finish (addA s.ccr.c (.mem (.ext hhll)) s)

/-- ADC, IX2, `D9` `ee ff` (R163). -/
def execAdcIx2 (eeff : Word) (s : State) : Host.Outcome State Fault Refusal :=
  finish (addA s.ccr.c (.mem (.ix2 eeff)) s)

/-- ADC, IX1, `E9` `ff` (R163). -/
def execAdcIx1 (ff : Byte) (s : State) : Host.Outcome State Fault Refusal :=
  finish (addA s.ccr.c (.mem (.ix1 ff)) s)

/-- ADC, IX, `F9` (R163). -/
def execAdcIx (s : State) : Host.Outcome State Fault Refusal :=
  finish (addA s.ccr.c (.mem .ix) s)

/-- ADC, SP2, `9E D9` `ee ff` (R163). -/
def execAdcSp2 (eeff : Word) (s : State) : Host.Outcome State Fault Refusal :=
  finish (addA s.ccr.c (.mem (.sp2 eeff)) s)

/-- ADC, SP1, `9E E9` `ff` (R163). -/
def execAdcSp1 (ff : Byte) (s : State) : Host.Outcome State Fault Refusal :=
  finish (addA s.ccr.c (.mem (.sp1 ff)) s)

/-- SBC, IMM, `A2` `ii` (R164). -/
def execSbcImm (ii : Byte) (s : State) : Host.Outcome State Fault Refusal :=
  finish (subA s.ccr.c (.imm ii) s)

/-- SBC, DIR, `B2` `dd` (R164). -/
def execSbcDir (dd : Byte) (s : State) : Host.Outcome State Fault Refusal :=
  finish (subA s.ccr.c (.mem (.dir dd)) s)

/-- SBC, EXT, `C2` `hh ll` (R164). -/
def execSbcExt (hhll : Word) (s : State) : Host.Outcome State Fault Refusal :=
  finish (subA s.ccr.c (.mem (.ext hhll)) s)

/-- SBC, IX2, `D2` `ee ff` (R164). -/
def execSbcIx2 (eeff : Word) (s : State) : Host.Outcome State Fault Refusal :=
  finish (subA s.ccr.c (.mem (.ix2 eeff)) s)

/-- SBC, IX1, `E2` `ff` (R164). -/
def execSbcIx1 (ff : Byte) (s : State) : Host.Outcome State Fault Refusal :=
  finish (subA s.ccr.c (.mem (.ix1 ff)) s)

/-- SBC, IX, `F2` (R164). -/
def execSbcIx (s : State) : Host.Outcome State Fault Refusal :=
  finish (subA s.ccr.c (.mem .ix) s)

/-- SBC, SP2, `9E D2` `ee ff` (R164). -/
def execSbcSp2 (eeff : Word) (s : State) : Host.Outcome State Fault Refusal :=
  finish (subA s.ccr.c (.mem (.sp2 eeff)) s)

/-- SBC, SP1, `9E E2` `ff` (R164). -/
def execSbcSp1 (ff : Byte) (s : State) : Host.Outcome State Fault Refusal :=
  finish (subA s.ccr.c (.mem (.sp1 ff)) s)

/-! ### DAA -/

/-- A row of Table 5-2 (R165): the initial C and H flag, the ranges of the two nibbles of A, the correction
factor and the corrected C. -/
structure DaaRow where
  c : Bool
  hiFrom : Nat
  hiTo : Nat
  hf : Bool
  loFrom : Nat
  loTo : Nat
  correction : Byte
  corrected : Bool

/-- Table 5-2, DAA Function Summary (R165). -/
def daaTable : List DaaRow :=
  [ { c := false, hiFrom := 0, hiTo := 9, hf := false, loFrom := 0, loTo := 9, correction := 0x00, corrected := false },
    { c := false, hiFrom := 0, hiTo := 8, hf := false, loFrom := 10, loTo := 15, correction := 0x06, corrected := false },
    { c := false, hiFrom := 0, hiTo := 9, hf := true, loFrom := 0, loTo := 3, correction := 0x06, corrected := false },
    { c := false, hiFrom := 10, hiTo := 15, hf := false, loFrom := 0, loTo := 9, correction := 0x60, corrected := true },
    { c := false, hiFrom := 9, hiTo := 15, hf := false, loFrom := 10, loTo := 15, correction := 0x66, corrected := true },
    { c := false, hiFrom := 10, hiTo := 15, hf := true, loFrom := 0, loTo := 3, correction := 0x66, corrected := true },
    { c := true, hiFrom := 0, hiTo := 2, hf := false, loFrom := 0, loTo := 9, correction := 0x60, corrected := true },
    { c := true, hiFrom := 0, hiTo := 2, hf := false, loFrom := 10, loTo := 15, correction := 0x66, corrected := true },
    { c := true, hiFrom := 0, hiTo := 3, hf := true, loFrom := 0, loTo := 3, correction := 0x66, corrected := true } ]

/-- Whether a row is the one for these inputs. -/
def DaaRow.fits (r : DaaRow) (c hf : Bool) (a : Byte) : Bool :=
  r.c == c && r.hf == hf && decide (r.hiFrom ≤ a.toNat / 16) && decide (a.toNat / 16 ≤ r.hiTo)
    && decide (r.loFrom ≤ a.toNat % 16) && decide (a.toNat % 16 ≤ r.loTo)

/-- The row of Table 5-2 for the flags and the accumulator, if one fits. -/
def daaRow (c hf : Bool) (a : Byte) : Option DaaRow := daaTable.find? (fun r => r.fits c hf a)

/-- DAA (R165): the row's correction is added and its C taken, V is a draw. Where no row fits, A and C are draws
too, and N and Z follow the drawn A (D17, log 13). H and I are unchanged. -/
def decimalAdjust (s : State) : State :=
  match daaRow s.ccr.c s.ccr.hf s.a with
  | some r =>
    { s with
      a := s.a + r.correction
      ccr := { s.ccr.nz8 (s.a + r.correction) with c := r.corrected, v := Config.anyBit s.draws }
      draws := s.draws + 1
      pc := s.npc 1 }
  | none =>
    { s with
      a := Config.anyByte s.draws
      ccr := { s.ccr.nz8 (Config.anyByte s.draws) with
        c := Config.anyBit (s.draws + 1), v := Config.anyBit (s.draws + 2) }
      draws := s.draws + 3
      pc := s.npc 1 }

/-- DAA, INH, `72` (R165). -/
def execDaa (s : State) : Host.Outcome State Fault Refusal :=
  .next (decimalAdjust s)

/-! ### MUL and DIV -/

/-- MUL (R166): X:A is the unsigned product, the H flag and C are cleared, H is unchanged. -/
def multiply (s : State) : State :=
  let p : Word := BitVec.ofNat 16 (s.x.toNat * s.a.toNat)
  { s with x := hiByte p, a := loByte p, ccr := { s.ccr with hf := false, c := false }, pc := s.npc 1 }

/-- DIV (R167): H:A is divided by X. On a divisor of 0 or a quotient over `$FF`, C is set and A, H and Z are draws
(D16, log 13). X is unchanged; there is no trap. -/
def divide (s : State) : State :=
  let d := s.h.toNat * 256 + s.a.toNat
  if s.x.toNat = 0 ∨ 255 < d / s.x.toNat then
    { s with
      a := Config.anyByte s.draws
      h := Config.anyByte (s.draws + 1)
      ccr := { s.ccr with c := true, z := Config.anyBit (s.draws + 2) }
      draws := s.draws + 3
      pc := s.npc 1 }
  else
    { s with
      a := BitVec.ofNat 8 (d / s.x.toNat)
      h := BitVec.ofNat 8 (d % s.x.toNat)
      ccr := { s.ccr with c := false, z := decide (d / s.x.toNat = 0) }
      pc := s.npc 1 }

/-- MUL, INH, `42` (R166). -/
def execMul (s : State) : Host.Outcome State Fault Refusal :=
  .next (multiply s)

/-- DIV, INH, `52` (R167). -/
def execDiv (s : State) : Host.Outcome State Fault Refusal :=
  .next (divide s)

end Sys2Proof.Machine
end

