-- ==== Sys2Proof/Machine/ArithMonadic.lean ====
section
/-! DEFINITION. One-operand arithmetic: DEC, INC, NEG (read-modify-write, spec/20_memory.md R65), AIS, AIX
(spec/43_arithmetic_monadic.md R180 to R184). DECX, INCX and NEGX never touch H. -/

namespace Sys2Proof.Machine

/-- DECA, INH, `4A` (R180). -/
def execDeca (s : State) : Host.Outcome State Fault Refusal :=
  finish (modifyPlace .a decByte s)

/-- DECX, INH, `5A` (R180). -/
def execDecx (s : State) : Host.Outcome State Fault Refusal :=
  finish (modifyPlace .x decByte s)

/-- DEC, DIR, `3A` `dd` (R180). -/
def execDecDir (dd : Byte) (s : State) : Host.Outcome State Fault Refusal :=
  finish (modifyPlace (.dir dd) decByte s)

/-- DEC, IX1, `6A` `ff` (R180). -/
def execDecIx1 (ff : Byte) (s : State) : Host.Outcome State Fault Refusal :=
  finish (modifyPlace (.ix1 ff) decByte s)

/-- DEC, IX, `7A` (R180). -/
def execDecIx (s : State) : Host.Outcome State Fault Refusal :=
  finish (modifyPlace .ix decByte s)

/-- DEC, SP1, `9E 6A` `ff` (R180). -/
def execDecSp1 (ff : Byte) (s : State) : Host.Outcome State Fault Refusal :=
  finish (modifyPlace (.sp1 ff) decByte s)

/-- INCA, INH, `4C` (R181). -/
def execInca (s : State) : Host.Outcome State Fault Refusal :=
  finish (modifyPlace .a incByte s)

/-- INCX, INH, `5C` (R181). -/
def execIncx (s : State) : Host.Outcome State Fault Refusal :=
  finish (modifyPlace .x incByte s)

/-- INC, DIR, `3C` `dd` (R181). -/
def execIncDir (dd : Byte) (s : State) : Host.Outcome State Fault Refusal :=
  finish (modifyPlace (.dir dd) incByte s)

/-- INC, IX1, `6C` `ff` (R181). -/
def execIncIx1 (ff : Byte) (s : State) : Host.Outcome State Fault Refusal :=
  finish (modifyPlace (.ix1 ff) incByte s)

/-- INC, IX, `7C` (R181). -/
def execIncIx (s : State) : Host.Outcome State Fault Refusal :=
  finish (modifyPlace .ix incByte s)

/-- INC, SP1, `9E 6C` `ff` (R181). -/
def execIncSp1 (ff : Byte) (s : State) : Host.Outcome State Fault Refusal :=
  finish (modifyPlace (.sp1 ff) incByte s)

/-- NEGA, INH, `40` (R182). -/
def execNega (s : State) : Host.Outcome State Fault Refusal :=
  finish (modifyPlace .a negByte s)

/-- NEGX, INH, `50` (R182). -/
def execNegx (s : State) : Host.Outcome State Fault Refusal :=
  finish (modifyPlace .x negByte s)

/-- NEG, DIR, `30` `dd` (R182). -/
def execNegDir (dd : Byte) (s : State) : Host.Outcome State Fault Refusal :=
  finish (modifyPlace (.dir dd) negByte s)

/-- NEG, IX1, `60` `ff` (R182). -/
def execNegIx1 (ff : Byte) (s : State) : Host.Outcome State Fault Refusal :=
  finish (modifyPlace (.ix1 ff) negByte s)

/-- NEG, IX, `70` (R182). -/
def execNegIx (s : State) : Host.Outcome State Fault Refusal :=
  finish (modifyPlace .ix negByte s)

/-- NEG, SP1, `9E 60` `ff` (R182). -/
def execNegSp1 (ff : Byte) (s : State) : Host.Outcome State Fault Refusal :=
  finish (modifyPlace (.sp1 ff) negByte s)

/-- AIS, IMM, `A7` `ii` (R183). -/
def execAis (ii : Byte) (s : State) : Host.Outcome State Fault Refusal :=
  .next { s with sp := s.sp + sext16 ii, pc := s.npc 2 }

/-- AIX, IMM, `AF` `ii` (R184). -/
def execAix (ii : Byte) (s : State) : Host.Outcome State Fault Refusal :=
  .next { s.setHx (s.hx + sext16 ii) with pc := s.npc 2 }

end Sys2Proof.Machine
end

