-- ==== Sys2Proof/Machine/BitOriented.lean ====
section
/-! DEFINITION. BSET n and BCLR n (spec/41_bit_oriented.md R150, R151). -/

namespace Sys2Proof.Machine

/-- BSET and BCLR (R150, R151): the byte is read, bit n is changed, and the byte is written back, also where the
bit was right already. No flag changes. -/
def changeBit (f : Byte → Byte) (dd : Byte) (s : State) : Except Stop State := do
  let (m, s1) ← readByte (zext16 dd) s
  let s2 ← writeByte (zext16 dd) (f m) s1
  .ok { s2 with pc := s.npc 2 }

/-- BSET n (R150). -/
def setBit (n : Nat) (dd : Byte) (s : State) : Except Stop State := changeBit (fun m => m ||| bitMask n) dd s

/-- BCLR n (R151). -/
def clearBit (n : Nat) (dd : Byte) (s : State) : Except Stop State := changeBit (fun m => m &&& ~~~bitMask n) dd s

/-- BSET 0, DIRB, `10` `dd` (R150). -/
def execBset0 (dd : Byte) (s : State) : Host.Outcome State Fault Refusal :=
  finish (setBit 0 dd s)

/-- BSET 1, DIRB, `12` `dd` (R150). -/
def execBset1 (dd : Byte) (s : State) : Host.Outcome State Fault Refusal :=
  finish (setBit 1 dd s)

/-- BSET 2, DIRB, `14` `dd` (R150). -/
def execBset2 (dd : Byte) (s : State) : Host.Outcome State Fault Refusal :=
  finish (setBit 2 dd s)

/-- BSET 3, DIRB, `16` `dd` (R150). -/
def execBset3 (dd : Byte) (s : State) : Host.Outcome State Fault Refusal :=
  finish (setBit 3 dd s)

/-- BSET 4, DIRB, `18` `dd` (R150). -/
def execBset4 (dd : Byte) (s : State) : Host.Outcome State Fault Refusal :=
  finish (setBit 4 dd s)

/-- BSET 5, DIRB, `1A` `dd` (R150). -/
def execBset5 (dd : Byte) (s : State) : Host.Outcome State Fault Refusal :=
  finish (setBit 5 dd s)

/-- BSET 6, DIRB, `1C` `dd` (R150). -/
def execBset6 (dd : Byte) (s : State) : Host.Outcome State Fault Refusal :=
  finish (setBit 6 dd s)

/-- BSET 7, DIRB, `1E` `dd` (R150). -/
def execBset7 (dd : Byte) (s : State) : Host.Outcome State Fault Refusal :=
  finish (setBit 7 dd s)

/-- BCLR 0, DIRB, `11` `dd` (R151). -/
def execBclr0 (dd : Byte) (s : State) : Host.Outcome State Fault Refusal :=
  finish (clearBit 0 dd s)

/-- BCLR 1, DIRB, `13` `dd` (R151). -/
def execBclr1 (dd : Byte) (s : State) : Host.Outcome State Fault Refusal :=
  finish (clearBit 1 dd s)

/-- BCLR 2, DIRB, `15` `dd` (R151). -/
def execBclr2 (dd : Byte) (s : State) : Host.Outcome State Fault Refusal :=
  finish (clearBit 2 dd s)

/-- BCLR 3, DIRB, `17` `dd` (R151). -/
def execBclr3 (dd : Byte) (s : State) : Host.Outcome State Fault Refusal :=
  finish (clearBit 3 dd s)

/-- BCLR 4, DIRB, `19` `dd` (R151). -/
def execBclr4 (dd : Byte) (s : State) : Host.Outcome State Fault Refusal :=
  finish (clearBit 4 dd s)

/-- BCLR 5, DIRB, `1B` `dd` (R151). -/
def execBclr5 (dd : Byte) (s : State) : Host.Outcome State Fault Refusal :=
  finish (clearBit 5 dd s)

/-- BCLR 6, DIRB, `1D` `dd` (R151). -/
def execBclr6 (dd : Byte) (s : State) : Host.Outcome State Fault Refusal :=
  finish (clearBit 6 dd s)

/-- BCLR 7, DIRB, `1F` `dd` (R151). -/
def execBclr7 (dd : Byte) (s : State) : Host.Outcome State Fault Refusal :=
  finish (clearBit 7 dd s)

end Sys2Proof.Machine
end

