-- ==== Sys2Proof/Machine/Branches.lean ====
section
/-! DEFINITION. The relative branches of source groups 08 and 09, and BSR (spec/47_branches.md R230 to R249).
BHS is BCC and BLO is BCS. -/

namespace Sys2Proof.Machine

/-- `branch(cond)` (R230): no flag, no register and no memory changes but PC. -/
def branchIf (cond : Bool) (rr : Byte) (s : State) : State := { s with pc := s.branchTarget 2 rr cond }

/-- BSR (R235): the address of the next instruction is pushed, low byte first. -/
def branchToSub (rr : Byte) (s : State) : Except Stop State := do
  let s1 ← pushWord (s.npc 2) s
  .ok { s1 with pc := s.branchTarget 2 rr true }

/-- BRA, REL, `20` `rr` (R231). -/
def execBra (rr : Byte) (s : State) : Host.Outcome State Fault Refusal :=
  .next (branchIf true rr s)

/-- BRN, REL, `21` `rr` (R232). -/
def execBrn (rr : Byte) (s : State) : Host.Outcome State Fault Refusal :=
  .next (branchIf false rr s)

/-- BEQ, REL, `27` `rr` (R233). -/
def execBeq (rr : Byte) (s : State) : Host.Outcome State Fault Refusal :=
  .next (branchIf s.ccr.z rr s)

/-- BNE, REL, `26` `rr` (R234). -/
def execBne (rr : Byte) (s : State) : Host.Outcome State Fault Refusal :=
  .next (branchIf (!s.ccr.z) rr s)

/-- BSR, REL, `AD` `rr` (R235). -/
def execBsr (rr : Byte) (s : State) : Host.Outcome State Fault Refusal :=
  finish (branchToSub rr s)

/-- BHI, REL, `22` `rr` (R236). -/
def execBhi (rr : Byte) (s : State) : Host.Outcome State Fault Refusal :=
  .next (branchIf (!(s.ccr.c || s.ccr.z)) rr s)

/-- BLS, REL, `23` `rr` (R239). -/
def execBls (rr : Byte) (s : State) : Host.Outcome State Fault Refusal :=
  .next (branchIf (s.ccr.c || s.ccr.z) rr s)

/-- BPL, REL, `2A` `rr` (R240). -/
def execBpl (rr : Byte) (s : State) : Host.Outcome State Fault Refusal :=
  .next (branchIf (!s.ccr.n) rr s)

/-- BMI, REL, `2B` `rr` (R241). -/
def execBmi (rr : Byte) (s : State) : Host.Outcome State Fault Refusal :=
  .next (branchIf s.ccr.n rr s)

/-- BCC, REL, `24` `rr` (R242). -/
def execBcc (rr : Byte) (s : State) : Host.Outcome State Fault Refusal :=
  .next (branchIf (!s.ccr.c) rr s)

/-- BCS, REL, `25` `rr` (R243). -/
def execBcs (rr : Byte) (s : State) : Host.Outcome State Fault Refusal :=
  .next (branchIf s.ccr.c rr s)

/-- BHCC, REL, `28` `rr` (R244). -/
def execBhcc (rr : Byte) (s : State) : Host.Outcome State Fault Refusal :=
  .next (branchIf (!s.ccr.hf) rr s)

/-- BHCS, REL, `29` `rr` (R245). -/
def execBhcs (rr : Byte) (s : State) : Host.Outcome State Fault Refusal :=
  .next (branchIf s.ccr.hf rr s)

/-- BMC, REL, `2C` `rr` (R246). -/
def execBmc (rr : Byte) (s : State) : Host.Outcome State Fault Refusal :=
  .next (branchIf (!s.ccr.i) rr s)

/-- BMS, REL, `2D` `rr` (R247). -/
def execBms (rr : Byte) (s : State) : Host.Outcome State Fault Refusal :=
  .next (branchIf s.ccr.i rr s)

/-- BIH, REL, `2F` `rr` (R248). -/
def execBih (rr : Byte) (s : State) : Host.Outcome State Fault Refusal :=
  .next (branchIf s.irqPin rr s)

/-- BIL, REL, `2E` `rr` (R249). -/
def execBil (rr : Byte) (s : State) : Host.Outcome State Fault Refusal :=
  .next (branchIf (!s.irqPin) rr s)

end Sys2Proof.Machine
end

