-- ==== Sys2Proof/Machine/DataCompare.lean ====
section
/-! DEFINITION. Compare, test, bit test and branch: CMP, CPX, CPHX, BIT, TST, BRCLR n, BRSET n
(spec/46_data_compare.md R210 to R216). -/

namespace Sys2Proof.Machine

/-- CMP and CPX (R210, R211): the flags of the subtraction from the register `r`; no register is written. -/
def compare8 (r : Byte) (o : Src) (s : State) : Except Stop State := do
  let (m, s1) ← loadSrc o s
  .ok { s1 with ccr := s.ccr.subbed8 r m false, pc := s.npc (srcLen o) }

/-- CPHX with the direct page (R212). -/
def compareHxDir (dd : Byte) (s : State) : Except Stop State := do
  let (m, s1) ← readWord (zext16 dd) s
  .ok { s1 with ccr := s.ccr.subbed16 s.hx m, pc := s.npc 2 }

/-- BIT (R213): the flags of the AND; A is not written. -/
def testBits (o : Src) (s : State) : Except Stop State := do
  let (m, s1) ← loadSrc o s
  .ok { s1 with ccr := s.ccr.loaded8 (s.a &&& m), pc := s.npc (srcLen o) }

/-- TST (R214): one read and no write. -/
def testPlace (p : Place) (s : State) : Except Stop State := do
  let (v, s1) ← loadPlace p s
  .ok { s1 with ccr := s.ccr.loaded8 v, pc := s.npc (placeLen p) }

/-- BRCLR and BRSET (R215, R216): C becomes bit n of the byte, and the branch is taken where that bit is
`wanted`. The byte is read once and not written. -/
def branchOnBit (wanted : Bool) (n : Nat) (dd rr : Byte) (s : State) : Except Stop State := do
  let (m, s1) ← readByte (zext16 dd) s
  .ok { s1 with ccr := { s.ccr with c := m.getLsbD n }, pc := s.branchTarget 3 rr (m.getLsbD n == wanted) }

/-- CMP, IMM, `A1` `ii` (R210). -/
def execCmpImm (ii : Byte) (s : State) : Host.Outcome State Fault Refusal :=
  finish (compare8 s.a (.imm ii) s)

/-- CMP, DIR, `B1` `dd` (R210). -/
def execCmpDir (dd : Byte) (s : State) : Host.Outcome State Fault Refusal :=
  finish (compare8 s.a (.mem (.dir dd)) s)

/-- CMP, EXT, `C1` `hh ll` (R210). -/
def execCmpExt (hhll : Word) (s : State) : Host.Outcome State Fault Refusal :=
  finish (compare8 s.a (.mem (.ext hhll)) s)

/-- CMP, IX2, `D1` `ee ff` (R210). -/
def execCmpIx2 (eeff : Word) (s : State) : Host.Outcome State Fault Refusal :=
  finish (compare8 s.a (.mem (.ix2 eeff)) s)

/-- CMP, IX1, `E1` `ff` (R210). -/
def execCmpIx1 (ff : Byte) (s : State) : Host.Outcome State Fault Refusal :=
  finish (compare8 s.a (.mem (.ix1 ff)) s)

/-- CMP, IX, `F1` (R210). -/
def execCmpIx (s : State) : Host.Outcome State Fault Refusal :=
  finish (compare8 s.a (.mem .ix) s)

/-- CMP, SP2, `9E D1` `ee ff` (R210). -/
def execCmpSp2 (eeff : Word) (s : State) : Host.Outcome State Fault Refusal :=
  finish (compare8 s.a (.mem (.sp2 eeff)) s)

/-- CMP, SP1, `9E E1` `ff` (R210). -/
def execCmpSp1 (ff : Byte) (s : State) : Host.Outcome State Fault Refusal :=
  finish (compare8 s.a (.mem (.sp1 ff)) s)

/-- CPX, IMM, `A3` `ii` (R211). -/
def execCpxImm (ii : Byte) (s : State) : Host.Outcome State Fault Refusal :=
  finish (compare8 s.x (.imm ii) s)

/-- CPX, DIR, `B3` `dd` (R211). -/
def execCpxDir (dd : Byte) (s : State) : Host.Outcome State Fault Refusal :=
  finish (compare8 s.x (.mem (.dir dd)) s)

/-- CPX, EXT, `C3` `hh ll` (R211). -/
def execCpxExt (hhll : Word) (s : State) : Host.Outcome State Fault Refusal :=
  finish (compare8 s.x (.mem (.ext hhll)) s)

/-- CPX, IX2, `D3` `ee ff` (R211). -/
def execCpxIx2 (eeff : Word) (s : State) : Host.Outcome State Fault Refusal :=
  finish (compare8 s.x (.mem (.ix2 eeff)) s)

/-- CPX, IX1, `E3` `ff` (R211). -/
def execCpxIx1 (ff : Byte) (s : State) : Host.Outcome State Fault Refusal :=
  finish (compare8 s.x (.mem (.ix1 ff)) s)

/-- CPX, IX, `F3` (R211). -/
def execCpxIx (s : State) : Host.Outcome State Fault Refusal :=
  finish (compare8 s.x (.mem .ix) s)

/-- CPX, SP2, `9E D3` `ee ff` (R211). -/
def execCpxSp2 (eeff : Word) (s : State) : Host.Outcome State Fault Refusal :=
  finish (compare8 s.x (.mem (.sp2 eeff)) s)

/-- CPX, SP1, `9E E3` `ff` (R211). -/
def execCpxSp1 (ff : Byte) (s : State) : Host.Outcome State Fault Refusal :=
  finish (compare8 s.x (.mem (.sp1 ff)) s)

/-- CPHX, IMM16, `65` `jj kk` (R212). -/
def execCphxImm (jjkk : Word) (s : State) : Host.Outcome State Fault Refusal :=
  .next { s with ccr := s.ccr.subbed16 s.hx jjkk, pc := s.npc 3 }

/-- CPHX, DIR, `75` `dd` (R212). -/
def execCphxDir (dd : Byte) (s : State) : Host.Outcome State Fault Refusal :=
  finish (compareHxDir dd s)

/-- BIT, IMM, `A5` `ii` (R213). -/
def execBitImm (ii : Byte) (s : State) : Host.Outcome State Fault Refusal :=
  finish (testBits (.imm ii) s)

/-- BIT, DIR, `B5` `dd` (R213). -/
def execBitDir (dd : Byte) (s : State) : Host.Outcome State Fault Refusal :=
  finish (testBits (.mem (.dir dd)) s)

/-- BIT, EXT, `C5` `hh ll` (R213). -/
def execBitExt (hhll : Word) (s : State) : Host.Outcome State Fault Refusal :=
  finish (testBits (.mem (.ext hhll)) s)

/-- BIT, IX2, `D5` `ee ff` (R213). -/
def execBitIx2 (eeff : Word) (s : State) : Host.Outcome State Fault Refusal :=
  finish (testBits (.mem (.ix2 eeff)) s)

/-- BIT, IX1, `E5` `ff` (R213). -/
def execBitIx1 (ff : Byte) (s : State) : Host.Outcome State Fault Refusal :=
  finish (testBits (.mem (.ix1 ff)) s)

/-- BIT, IX, `F5` (R213). -/
def execBitIx (s : State) : Host.Outcome State Fault Refusal :=
  finish (testBits (.mem .ix) s)

/-- BIT, SP2, `9E D5` `ee ff` (R213). -/
def execBitSp2 (eeff : Word) (s : State) : Host.Outcome State Fault Refusal :=
  finish (testBits (.mem (.sp2 eeff)) s)

/-- BIT, SP1, `9E E5` `ff` (R213). -/
def execBitSp1 (ff : Byte) (s : State) : Host.Outcome State Fault Refusal :=
  finish (testBits (.mem (.sp1 ff)) s)

/-- TSTA, INH, `4D` (R214). -/
def execTsta (s : State) : Host.Outcome State Fault Refusal :=
  finish (testPlace .a s)

/-- TSTX, INH, `5D` (R214). -/
def execTstx (s : State) : Host.Outcome State Fault Refusal :=
  finish (testPlace .x s)

/-- TST, DIR, `3D` `dd` (R214). -/
def execTstDir (dd : Byte) (s : State) : Host.Outcome State Fault Refusal :=
  finish (testPlace (.dir dd) s)

/-- TST, IX1, `6D` `ff` (R214). -/
def execTstIx1 (ff : Byte) (s : State) : Host.Outcome State Fault Refusal :=
  finish (testPlace (.ix1 ff) s)

/-- TST, IX, `7D` (R214). -/
def execTstIx (s : State) : Host.Outcome State Fault Refusal :=
  finish (testPlace .ix s)

/-- TST, SP1, `9E 6D` `ff` (R214). -/
def execTstSp1 (ff : Byte) (s : State) : Host.Outcome State Fault Refusal :=
  finish (testPlace (.sp1 ff) s)

/-- BRCLR 0, DIRB_REL, `01` `dd rr` (R215). -/
def execBrclr0 (dd : Byte) (rr : Byte) (s : State) : Host.Outcome State Fault Refusal :=
  finish (branchOnBit false 0 dd rr s)

/-- BRCLR 1, DIRB_REL, `03` `dd rr` (R215). -/
def execBrclr1 (dd : Byte) (rr : Byte) (s : State) : Host.Outcome State Fault Refusal :=
  finish (branchOnBit false 1 dd rr s)

/-- BRCLR 2, DIRB_REL, `05` `dd rr` (R215). -/
def execBrclr2 (dd : Byte) (rr : Byte) (s : State) : Host.Outcome State Fault Refusal :=
  finish (branchOnBit false 2 dd rr s)

/-- BRCLR 3, DIRB_REL, `07` `dd rr` (R215). -/
def execBrclr3 (dd : Byte) (rr : Byte) (s : State) : Host.Outcome State Fault Refusal :=
  finish (branchOnBit false 3 dd rr s)

/-- BRCLR 4, DIRB_REL, `09` `dd rr` (R215). -/
def execBrclr4 (dd : Byte) (rr : Byte) (s : State) : Host.Outcome State Fault Refusal :=
  finish (branchOnBit false 4 dd rr s)

/-- BRCLR 5, DIRB_REL, `0B` `dd rr` (R215). -/
def execBrclr5 (dd : Byte) (rr : Byte) (s : State) : Host.Outcome State Fault Refusal :=
  finish (branchOnBit false 5 dd rr s)

/-- BRCLR 6, DIRB_REL, `0D` `dd rr` (R215). -/
def execBrclr6 (dd : Byte) (rr : Byte) (s : State) : Host.Outcome State Fault Refusal :=
  finish (branchOnBit false 6 dd rr s)

/-- BRCLR 7, DIRB_REL, `0F` `dd rr` (R215). -/
def execBrclr7 (dd : Byte) (rr : Byte) (s : State) : Host.Outcome State Fault Refusal :=
  finish (branchOnBit false 7 dd rr s)

/-- BRSET 0, DIRB_REL, `00` `dd rr` (R216). -/
def execBrset0 (dd : Byte) (rr : Byte) (s : State) : Host.Outcome State Fault Refusal :=
  finish (branchOnBit true 0 dd rr s)

/-- BRSET 1, DIRB_REL, `02` `dd rr` (R216). -/
def execBrset1 (dd : Byte) (rr : Byte) (s : State) : Host.Outcome State Fault Refusal :=
  finish (branchOnBit true 1 dd rr s)

/-- BRSET 2, DIRB_REL, `04` `dd rr` (R216). -/
def execBrset2 (dd : Byte) (rr : Byte) (s : State) : Host.Outcome State Fault Refusal :=
  finish (branchOnBit true 2 dd rr s)

/-- BRSET 3, DIRB_REL, `06` `dd rr` (R216). -/
def execBrset3 (dd : Byte) (rr : Byte) (s : State) : Host.Outcome State Fault Refusal :=
  finish (branchOnBit true 3 dd rr s)

/-- BRSET 4, DIRB_REL, `08` `dd rr` (R216). -/
def execBrset4 (dd : Byte) (rr : Byte) (s : State) : Host.Outcome State Fault Refusal :=
  finish (branchOnBit true 4 dd rr s)

/-- BRSET 5, DIRB_REL, `0A` `dd rr` (R216). -/
def execBrset5 (dd : Byte) (rr : Byte) (s : State) : Host.Outcome State Fault Refusal :=
  finish (branchOnBit true 5 dd rr s)

/-- BRSET 6, DIRB_REL, `0C` `dd rr` (R216). -/
def execBrset6 (dd : Byte) (rr : Byte) (s : State) : Host.Outcome State Fault Refusal :=
  finish (branchOnBit true 6 dd rr s)

/-- BRSET 7, DIRB_REL, `0E` `dd rr` (R216). -/
def execBrset7 (dd : Byte) (rr : Byte) (s : State) : Host.Outcome State Fault Refusal :=
  finish (branchOnBit true 7 dd rr s)

end Sys2Proof.Machine
end

