-- ==== Sys2Proof/Machine/DataMovement.lean ====
section
/-! DEFINITION. Data movement: CLR, LDA, STA, LDX, STX, NSA, TAX, TXA, LDHX, STHX, MOV and the pushes and pulls
(spec/40_data_movement.md R121 to R137). -/

namespace Sys2Proof.Machine

/-! ### CLR -/

/-- CLR of A, X or memory (R121): a memory form writes and does not read (spec/20_memory.md R66 (c)). -/
def clearPlace (p : Place) (s : State) : Except Stop State := do
  let s1 ← storePlace p 0 s
  .ok { s1 with ccr := { s.ccr with v := false, n := false, z := true }, pc := s.npc (placeLen p) }

/-- CLRA, INH, `4F` (R121). -/
def execClra (s : State) : Host.Outcome State Fault Refusal :=
  finish (clearPlace .a s)

/-- CLRX, INH, `5F` (R121). -/
def execClrx (s : State) : Host.Outcome State Fault Refusal :=
  finish (clearPlace .x s)

/-- CLR, DIR, `3F` `dd` (R121). -/
def execClrDir (dd : Byte) (s : State) : Host.Outcome State Fault Refusal :=
  finish (clearPlace (.dir dd) s)

/-- CLR, IX1, `6F` `ff` (R121). -/
def execClrIx1 (ff : Byte) (s : State) : Host.Outcome State Fault Refusal :=
  finish (clearPlace (.ix1 ff) s)

/-- CLR, IX, `7F` (R121). -/
def execClrIx (s : State) : Host.Outcome State Fault Refusal :=
  finish (clearPlace .ix s)

/-- CLR, SP1, `9E 6F` `ff` (R121). -/
def execClrSp1 (ff : Byte) (s : State) : Host.Outcome State Fault Refusal :=
  finish (clearPlace (.sp1 ff) s)

/-- CLRH, INH, `8C` (R121). -/
def execClrh (s : State) : Host.Outcome State Fault Refusal :=
  .next { s with h := 0, ccr := { s.ccr with v := false, n := false, z := true }, pc := s.npc 1 }

/-! ### LDA, STA, LDX, STX -/

/-- LDA (R122). -/
def loadA (o : Src) (s : State) : Except Stop State := do
  let (m, s1) ← loadSrc o s
  .ok { s1 with a := m, ccr := s.ccr.loaded8 m, pc := s.npc (srcLen o) }

/-- LDX (R124): the address is formed from the old H:X, and H is unchanged. -/
def loadX (o : Src) (s : State) : Except Stop State := do
  let (m, s1) ← loadSrc o s
  .ok { s1 with x := m, ccr := s.ccr.loaded8 m, pc := s.npc (srcLen o) }

/-- A store of a register's byte (R123, R125): the flags reflect the byte stored. -/
def storeReg (v : Byte) (e : Ea) (s : State) : Except Stop State := do
  let s1 ← writeByte (eaOf e s) v s
  .ok { s1 with ccr := s.ccr.loaded8 v, pc := s.npc (eaLen e) }

/-- LDA, IMM, `A6` `ii` (R122). -/
def execLdaImm (ii : Byte) (s : State) : Host.Outcome State Fault Refusal :=
  finish (loadA (.imm ii) s)

/-- LDA, DIR, `B6` `dd` (R122). -/
def execLdaDir (dd : Byte) (s : State) : Host.Outcome State Fault Refusal :=
  finish (loadA (.mem (.dir dd)) s)

/-- LDA, EXT, `C6` `hh ll` (R122). -/
def execLdaExt (hhll : Word) (s : State) : Host.Outcome State Fault Refusal :=
  finish (loadA (.mem (.ext hhll)) s)

/-- LDA, IX2, `D6` `ee ff` (R122). -/
def execLdaIx2 (eeff : Word) (s : State) : Host.Outcome State Fault Refusal :=
  finish (loadA (.mem (.ix2 eeff)) s)

/-- LDA, IX1, `E6` `ff` (R122). -/
def execLdaIx1 (ff : Byte) (s : State) : Host.Outcome State Fault Refusal :=
  finish (loadA (.mem (.ix1 ff)) s)

/-- LDA, IX, `F6` (R122). -/
def execLdaIx (s : State) : Host.Outcome State Fault Refusal :=
  finish (loadA (.mem .ix) s)

/-- LDA, SP2, `9E D6` `ee ff` (R122). -/
def execLdaSp2 (eeff : Word) (s : State) : Host.Outcome State Fault Refusal :=
  finish (loadA (.mem (.sp2 eeff)) s)

/-- LDA, SP1, `9E E6` `ff` (R122). -/
def execLdaSp1 (ff : Byte) (s : State) : Host.Outcome State Fault Refusal :=
  finish (loadA (.mem (.sp1 ff)) s)

/-- STA, DIR, `B7` `dd` (R123). -/
def execStaDir (dd : Byte) (s : State) : Host.Outcome State Fault Refusal :=
  finish (storeReg s.a (.dir dd) s)

/-- STA, EXT, `C7` `hh ll` (R123). -/
def execStaExt (hhll : Word) (s : State) : Host.Outcome State Fault Refusal :=
  finish (storeReg s.a (.ext hhll) s)

/-- STA, IX2, `D7` `ee ff` (R123). -/
def execStaIx2 (eeff : Word) (s : State) : Host.Outcome State Fault Refusal :=
  finish (storeReg s.a (.ix2 eeff) s)

/-- STA, IX1, `E7` `ff` (R123). -/
def execStaIx1 (ff : Byte) (s : State) : Host.Outcome State Fault Refusal :=
  finish (storeReg s.a (.ix1 ff) s)

/-- STA, IX, `F7` (R123). -/
def execStaIx (s : State) : Host.Outcome State Fault Refusal :=
  finish (storeReg s.a .ix s)

/-- STA, SP2, `9E D7` `ee ff` (R123). -/
def execStaSp2 (eeff : Word) (s : State) : Host.Outcome State Fault Refusal :=
  finish (storeReg s.a (.sp2 eeff) s)

/-- STA, SP1, `9E E7` `ff` (R123). -/
def execStaSp1 (ff : Byte) (s : State) : Host.Outcome State Fault Refusal :=
  finish (storeReg s.a (.sp1 ff) s)

/-- LDX, IMM, `AE` `ii` (R124). -/
def execLdxImm (ii : Byte) (s : State) : Host.Outcome State Fault Refusal :=
  finish (loadX (.imm ii) s)

/-- LDX, DIR, `BE` `dd` (R124). -/
def execLdxDir (dd : Byte) (s : State) : Host.Outcome State Fault Refusal :=
  finish (loadX (.mem (.dir dd)) s)

/-- LDX, EXT, `CE` `hh ll` (R124). -/
def execLdxExt (hhll : Word) (s : State) : Host.Outcome State Fault Refusal :=
  finish (loadX (.mem (.ext hhll)) s)

/-- LDX, IX2, `DE` `ee ff` (R124). -/
def execLdxIx2 (eeff : Word) (s : State) : Host.Outcome State Fault Refusal :=
  finish (loadX (.mem (.ix2 eeff)) s)

/-- LDX, IX1, `EE` `ff` (R124). -/
def execLdxIx1 (ff : Byte) (s : State) : Host.Outcome State Fault Refusal :=
  finish (loadX (.mem (.ix1 ff)) s)

/-- LDX, IX, `FE` (R124). -/
def execLdxIx (s : State) : Host.Outcome State Fault Refusal :=
  finish (loadX (.mem .ix) s)

/-- LDX, SP2, `9E DE` `ee ff` (R124). -/
def execLdxSp2 (eeff : Word) (s : State) : Host.Outcome State Fault Refusal :=
  finish (loadX (.mem (.sp2 eeff)) s)

/-- LDX, SP1, `9E EE` `ff` (R124). -/
def execLdxSp1 (ff : Byte) (s : State) : Host.Outcome State Fault Refusal :=
  finish (loadX (.mem (.sp1 ff)) s)

/-- STX, DIR, `BF` `dd` (R125). -/
def execStxDir (dd : Byte) (s : State) : Host.Outcome State Fault Refusal :=
  finish (storeReg s.x (.dir dd) s)

/-- STX, EXT, `CF` `hh ll` (R125). -/
def execStxExt (hhll : Word) (s : State) : Host.Outcome State Fault Refusal :=
  finish (storeReg s.x (.ext hhll) s)

/-- STX, IX2, `DF` `ee ff` (R125). -/
def execStxIx2 (eeff : Word) (s : State) : Host.Outcome State Fault Refusal :=
  finish (storeReg s.x (.ix2 eeff) s)

/-- STX, IX1, `EF` `ff` (R125). -/
def execStxIx1 (ff : Byte) (s : State) : Host.Outcome State Fault Refusal :=
  finish (storeReg s.x (.ix1 ff) s)

/-- STX, IX, `FF` (R125). -/
def execStxIx (s : State) : Host.Outcome State Fault Refusal :=
  finish (storeReg s.x .ix s)

/-- STX, SP2, `9E DF` `ee ff` (R125). -/
def execStxSp2 (eeff : Word) (s : State) : Host.Outcome State Fault Refusal :=
  finish (storeReg s.x (.sp2 eeff) s)

/-- STX, SP1, `9E EF` `ff` (R125). -/
def execStxSp1 (ff : Byte) (s : State) : Host.Outcome State Fault Refusal :=
  finish (storeReg s.x (.sp1 ff) s)

/-! ### NSA, TAX, TXA -/

/-- NSA, INH, `62` (R126). -/
def execNsa (s : State) : Host.Outcome State Fault Refusal :=
  .next { s with a := s.a.extractLsb' 0 4 ++ s.a.extractLsb' 4 4, pc := s.npc 1 }

/-- TAX, INH, `97` (R127). -/
def execTax (s : State) : Host.Outcome State Fault Refusal :=
  .next { s with x := s.a, pc := s.npc 1 }

/-- TXA, INH, `9F` (R128). -/
def execTxa (s : State) : Host.Outcome State Fault Refusal :=
  .next { s with a := s.x, pc := s.npc 1 }

/-! ### LDHX, STHX -/

/-- LDHX from the direct page (R129): H from the address, X from the one after it, which is `$0100` where the
address is `$00FF` (spec/30_encoding.md R87). -/
def loadHxDir (dd : Byte) (s : State) : Except Stop State := do
  let (v, s1) ← readWord (zext16 dd) s
  .ok { s1 with h := hiByte v, x := loByte v, ccr := s.ccr.loaded16 v, pc := s.npc 2 }

/-- STHX (R130): H is written first, at the lower address. -/
def storeHxDir (dd : Byte) (s : State) : Except Stop State := do
  let s1 ← writeWord (zext16 dd) s.hx s
  .ok { s1 with ccr := s.ccr.loaded16 s.hx, pc := s.npc 2 }

/-- LDHX, IMM16, `45` `jj kk` (R129). -/
def execLdhxImm (jjkk : Word) (s : State) : Host.Outcome State Fault Refusal :=
  .next { s with h := hiByte jjkk, x := loByte jjkk, ccr := s.ccr.loaded16 jjkk, pc := s.npc 3 }

/-- LDHX, DIR, `55` `dd` (R129). -/
def execLdhxDir (dd : Byte) (s : State) : Host.Outcome State Fault Refusal :=
  finish (loadHxDir dd s)

/-- STHX, DIR, `35` `dd` (R130). -/
def execSthxDir (dd : Byte) (s : State) : Host.Outcome State Fault Refusal :=
  finish (storeHxDir dd s)

/-! ### MOV -/

/-- What the four modes of MOV share once the byte has been read (R131): it is written, V is cleared and N and Z
come from it. -/
def moveByte (v : Byte) (dest : Word) (len : Nat) (s : State) : Except Stop State := do
  let s1 ← writeByte dest v s
  .ok { s1 with ccr := s.ccr.loaded8 v, pc := s.npc len }

/-- MOV from a byte of memory to a byte of memory, the source read first (spec/20_memory.md R66 (d)). -/
def moveMem (src dest : Word) (len : Nat) (s : State) : Except Stop State := do
  let (v, s1) ← readByte src s
  moveByte v dest len s1

/-- The X+ modes: H:X is incremented after the move is completed (R92, R131). -/
def moveMemBump (src dest : Word) (len : Nat) (s : State) : Except Stop State := do
  let s1 ← moveMem src dest len s
  .ok s1.bumpHx

/-- MOV, DIR/DIR, `4E` `dd dd` (R131). -/
def execMovDirDir (src : Byte) (dst : Byte) (s : State) : Host.Outcome State Fault Refusal :=
  finish (moveMem (zext16 src) (zext16 dst) 3 s)

/-- MOV, DIR/IX+, `5E` `dd` (R131). -/
def execMovDirIxp (src : Byte) (s : State) : Host.Outcome State Fault Refusal :=
  finish (moveMemBump (zext16 src) s.hx 2 s)

/-- MOV, IMM/DIR, `6E` `ii dd` (R131). -/
def execMovImmDir (ii : Byte) (dst : Byte) (s : State) : Host.Outcome State Fault Refusal :=
  finish (moveByte ii (zext16 dst) 3 s)

/-- MOV, IX+/DIR, `7E` `dd` (R131). -/
def execMovIxpDir (dst : Byte) (s : State) : Host.Outcome State Fault Refusal :=
  finish (moveMemBump s.hx (zext16 dst) 2 s)

/-! ### Pushes and pulls -/

/-- PSHA, PSHH and PSHX (R132, R134, R136): no flag changes. -/
def pushReg (v : Byte) (s : State) : Except Stop State := do
  let s1 ← push8 v s
  .ok { s1 with pc := s.npc 1 }

/-- PULA (R133). -/
def pullA (s : State) : Except Stop State := do
  let (v, s1) ← pull8 s
  .ok { s1 with a := v, pc := s.npc 1 }

/-- PULH (R135). -/
def pullH (s : State) : Except Stop State := do
  let (v, s1) ← pull8 s
  .ok { s1 with h := v, pc := s.npc 1 }

/-- PULX (R137). -/
def pullX (s : State) : Except Stop State := do
  let (v, s1) ← pull8 s
  .ok { s1 with x := v, pc := s.npc 1 }

/-- PSHA, INH, `87` (R132). -/
def execPsha (s : State) : Host.Outcome State Fault Refusal :=
  finish (pushReg s.a s)

/-- PULA, INH, `86` (R133). -/
def execPula (s : State) : Host.Outcome State Fault Refusal :=
  finish (pullA s)

/-- PSHH, INH, `8B` (R134). -/
def execPshh (s : State) : Host.Outcome State Fault Refusal :=
  finish (pushReg s.h s)

/-- PULH, INH, `8A` (R135). -/
def execPulh (s : State) : Host.Outcome State Fault Refusal :=
  finish (pullH s)

/-- PSHX, INH, `89` (R136). -/
def execPshx (s : State) : Host.Outcome State Fault Refusal :=
  finish (pushReg s.x s)

/-- PULX, INH, `88` (R137). -/
def execPulx (s : State) : Host.Outcome State Fault Refusal :=
  finish (pullX s)

end Sys2Proof.Machine
end

