-- ==== Sys2Proof/Machine/JumpControl.lean ====
section
/-! DEFINITION. Jumps, returns and control: JMP, JSR, RTS, SEC, CLC, CLI, SEI, SWI, RTI, RSP, NOP, WAIT, STOP, TAP,
TPA, TXS, TSX (spec/49_jump_return_control.md R280 to R296). -/

namespace Sys2Proof.Machine

/-- JMP (R280): PC becomes the effective address; the byte there is not read. -/
def jump (j : JumpForm) (s : State) : Except Stop State := .ok { s with pc := eaOf (jumpEa j) s }

/-- JSR (R281): the effective address is formed from H:X before anything is pushed, and the address after the
instruction is pushed, low byte first. -/
def jumpToSub (j : JumpForm) (s : State) : Except Stop State := do
  let s1 ← pushWord (s.npc (eaLen (jumpEa j))) s
  .ok { s1 with pc := eaOf (jumpEa j) s }

/-- RTS (R282). -/
def returnFromSub (s : State) : Except Stop State := do
  let (target, s1) ← pullWord s
  .ok { s1 with pc := target }

/-- JMP, DIR, `BC` `dd` (R280). -/
def execJmpDir (dd : Byte) (s : State) : Host.Outcome State Fault Refusal :=
  finish (jump (.dir dd) s)

/-- JMP, EXT, `CC` `hh ll` (R280). -/
def execJmpExt (hhll : Word) (s : State) : Host.Outcome State Fault Refusal :=
  finish (jump (.ext hhll) s)

/-- JMP, IX2, `DC` `ee ff` (R280). -/
def execJmpIx2 (eeff : Word) (s : State) : Host.Outcome State Fault Refusal :=
  finish (jump (.ix2 eeff) s)

/-- JMP, IX1, `EC` `ff` (R280). -/
def execJmpIx1 (ff : Byte) (s : State) : Host.Outcome State Fault Refusal :=
  finish (jump (.ix1 ff) s)

/-- JMP, IX, `FC` (R280). -/
def execJmpIx (s : State) : Host.Outcome State Fault Refusal :=
  finish (jump .ix s)

/-- JSR, DIR, `BD` `dd` (R281). -/
def execJsrDir (dd : Byte) (s : State) : Host.Outcome State Fault Refusal :=
  finish (jumpToSub (.dir dd) s)

/-- JSR, EXT, `CD` `hh ll` (R281). -/
def execJsrExt (hhll : Word) (s : State) : Host.Outcome State Fault Refusal :=
  finish (jumpToSub (.ext hhll) s)

/-- JSR, IX2, `DD` `ee ff` (R281). -/
def execJsrIx2 (eeff : Word) (s : State) : Host.Outcome State Fault Refusal :=
  finish (jumpToSub (.ix2 eeff) s)

/-- JSR, IX1, `ED` `ff` (R281). -/
def execJsrIx1 (ff : Byte) (s : State) : Host.Outcome State Fault Refusal :=
  finish (jumpToSub (.ix1 ff) s)

/-- JSR, IX, `FD` (R281). -/
def execJsrIx (s : State) : Host.Outcome State Fault Refusal :=
  finish (jumpToSub .ix s)

/-- RTS, INH, `81` (R282). -/
def execRts (s : State) : Host.Outcome State Fault Refusal :=
  finish (returnFromSub s)

/-- SEC, INH, `99` (R283). -/
def execSec (s : State) : Host.Outcome State Fault Refusal :=
  .next { s with ccr := { s.ccr with c := true }, pc := s.npc 1 }

/-- CLC, INH, `98` (R284). -/
def execClc (s : State) : Host.Outcome State Fault Refusal :=
  .next { s with ccr := { s.ccr with c := false }, pc := s.npc 1 }

/-- CLI, INH, `9A` (R285). -/
def execCli (s : State) : Host.Outcome State Fault Refusal :=
  .next { s with ccr := { s.ccr with i := false }, pc := s.npc 1 }

/-- SEI, INH, `9B` (R286). An SEI that finds I = 0 opens the late window (spec/60_exceptions.md R317). -/
def execSei (s : State) : Host.Outcome State Fault Refusal :=
  .next { s with ccr := { s.ccr with i := true }, seiWindow := !s.ccr.i, pc := s.npc 1 }

/-- SWI, INH, `83` (R287): the exception is taken, whatever I is. -/
def execSwi (s : State) : Host.Outcome State Fault Refusal :=
  finish (enterException (s.npc 1) Config.swiVector s)

/-- RTI, INH, `80` (R288). -/
def execRti (s : State) : Host.Outcome State Fault Refusal :=
  finish (returnFromException s)

/-- RSP, INH, `9C` (R289). -/
def execRsp (s : State) : Host.Outcome State Fault Refusal :=
  .next { s with sp := joinBytes (hiByte s.sp) 0xFF#8, pc := s.npc 1 }

/-- NOP, INH, `9D` (R290). -/
def execNop (s : State) : Host.Outcome State Fault Refusal :=
  .next { s with pc := s.npc 1 }

/-- WAIT, INH, `8F` (R291). -/
def execWait (s : State) : Host.Outcome State Fault Refusal :=
  .next { s with ccr := { s.ccr with i := false }, run := .waiting, pc := s.npc 1 }

/-- STOP, INH, `8E` (R292). -/
def execStop (s : State) : Host.Outcome State Fault Refusal :=
  .next { s with ccr := { s.ccr with i := false }, run := .stopped, pc := s.npc 1 }

/-- TAP, INH, `84` (R293). -/
def execTap (s : State) : Host.Outcome State Fault Refusal :=
  .next { s with ccr := Ccr.ofByte s.a, pc := s.npc 1 }

/-- TPA, INH, `85` (R294). -/
def execTpa (s : State) : Host.Outcome State Fault Refusal :=
  .next { s with a := s.ccr.byte, pc := s.npc 1 }

/-- TXS, INH, `94` (R295). -/
def execTxs (s : State) : Host.Outcome State Fault Refusal :=
  .next { s with sp := s.hx - 1, pc := s.npc 1 }

/-- TSX, INH, `95` (R296). -/
def execTsx (s : State) : Host.Outcome State Fault Refusal :=
  .next { s.setHx (s.sp + 1) with pc := s.npc 1 }

end Sys2Proof.Machine
end

