-- ==== Sys2Proof/Machine/Logic.lean ====
section
/-! DEFINITION. Logic: AND, ORA, EOR, COM (spec/45_logic.md R200 to R203). -/

namespace Sys2Proof.Machine

/-- AND, ORA and EOR (R200 to R202): A becomes the result, V is cleared, N and Z come from it. -/
def logicA (f : Byte → Byte → Byte) (o : Src) (s : State) : Except Stop State := do
  let (m, s1) ← loadSrc o s
  .ok { s1 with a := f s.a m, ccr := s.ccr.loaded8 (f s.a m), pc := s.npc (srcLen o) }

/-- AND, IMM, `A4` `ii` (R200). -/
def execAndImm (ii : Byte) (s : State) : Host.Outcome State Fault Refusal :=
  finish (logicA (fun a m => a &&& m) (.imm ii) s)

/-- AND, DIR, `B4` `dd` (R200). -/
def execAndDir (dd : Byte) (s : State) : Host.Outcome State Fault Refusal :=
  finish (logicA (fun a m => a &&& m) (.mem (.dir dd)) s)

/-- AND, EXT, `C4` `hh ll` (R200). -/
def execAndExt (hhll : Word) (s : State) : Host.Outcome State Fault Refusal :=
  finish (logicA (fun a m => a &&& m) (.mem (.ext hhll)) s)

/-- AND, IX2, `D4` `ee ff` (R200). -/
def execAndIx2 (eeff : Word) (s : State) : Host.Outcome State Fault Refusal :=
  finish (logicA (fun a m => a &&& m) (.mem (.ix2 eeff)) s)

/-- AND, IX1, `E4` `ff` (R200). -/
def execAndIx1 (ff : Byte) (s : State) : Host.Outcome State Fault Refusal :=
  finish (logicA (fun a m => a &&& m) (.mem (.ix1 ff)) s)

/-- AND, IX, `F4` (R200). -/
def execAndIx (s : State) : Host.Outcome State Fault Refusal :=
  finish (logicA (fun a m => a &&& m) (.mem .ix) s)

/-- AND, SP2, `9E D4` `ee ff` (R200). -/
def execAndSp2 (eeff : Word) (s : State) : Host.Outcome State Fault Refusal :=
  finish (logicA (fun a m => a &&& m) (.mem (.sp2 eeff)) s)

/-- AND, SP1, `9E E4` `ff` (R200). -/
def execAndSp1 (ff : Byte) (s : State) : Host.Outcome State Fault Refusal :=
  finish (logicA (fun a m => a &&& m) (.mem (.sp1 ff)) s)

/-- ORA, IMM, `AA` `ii` (R201). -/
def execOraImm (ii : Byte) (s : State) : Host.Outcome State Fault Refusal :=
  finish (logicA (fun a m => a ||| m) (.imm ii) s)

/-- ORA, DIR, `BA` `dd` (R201). -/
def execOraDir (dd : Byte) (s : State) : Host.Outcome State Fault Refusal :=
  finish (logicA (fun a m => a ||| m) (.mem (.dir dd)) s)

/-- ORA, EXT, `CA` `hh ll` (R201). -/
def execOraExt (hhll : Word) (s : State) : Host.Outcome State Fault Refusal :=
  finish (logicA (fun a m => a ||| m) (.mem (.ext hhll)) s)

/-- ORA, IX2, `DA` `ee ff` (R201). -/
def execOraIx2 (eeff : Word) (s : State) : Host.Outcome State Fault Refusal :=
  finish (logicA (fun a m => a ||| m) (.mem (.ix2 eeff)) s)

/-- ORA, IX1, `EA` `ff` (R201). -/
def execOraIx1 (ff : Byte) (s : State) : Host.Outcome State Fault Refusal :=
  finish (logicA (fun a m => a ||| m) (.mem (.ix1 ff)) s)

/-- ORA, IX, `FA` (R201). -/
def execOraIx (s : State) : Host.Outcome State Fault Refusal :=
  finish (logicA (fun a m => a ||| m) (.mem .ix) s)

/-- ORA, SP2, `9E DA` `ee ff` (R201). -/
def execOraSp2 (eeff : Word) (s : State) : Host.Outcome State Fault Refusal :=
  finish (logicA (fun a m => a ||| m) (.mem (.sp2 eeff)) s)

/-- ORA, SP1, `9E EA` `ff` (R201). -/
def execOraSp1 (ff : Byte) (s : State) : Host.Outcome State Fault Refusal :=
  finish (logicA (fun a m => a ||| m) (.mem (.sp1 ff)) s)

/-- EOR, IMM, `A8` `ii` (R202). -/
def execEorImm (ii : Byte) (s : State) : Host.Outcome State Fault Refusal :=
  finish (logicA (fun a m => a ^^^ m) (.imm ii) s)

/-- EOR, DIR, `B8` `dd` (R202). -/
def execEorDir (dd : Byte) (s : State) : Host.Outcome State Fault Refusal :=
  finish (logicA (fun a m => a ^^^ m) (.mem (.dir dd)) s)

/-- EOR, EXT, `C8` `hh ll` (R202). -/
def execEorExt (hhll : Word) (s : State) : Host.Outcome State Fault Refusal :=
  finish (logicA (fun a m => a ^^^ m) (.mem (.ext hhll)) s)

/-- EOR, IX2, `D8` `ee ff` (R202). -/
def execEorIx2 (eeff : Word) (s : State) : Host.Outcome State Fault Refusal :=
  finish (logicA (fun a m => a ^^^ m) (.mem (.ix2 eeff)) s)

/-- EOR, IX1, `E8` `ff` (R202). -/
def execEorIx1 (ff : Byte) (s : State) : Host.Outcome State Fault Refusal :=
  finish (logicA (fun a m => a ^^^ m) (.mem (.ix1 ff)) s)

/-- EOR, IX, `F8` (R202). -/
def execEorIx (s : State) : Host.Outcome State Fault Refusal :=
  finish (logicA (fun a m => a ^^^ m) (.mem .ix) s)

/-- EOR, SP2, `9E D8` `ee ff` (R202). -/
def execEorSp2 (eeff : Word) (s : State) : Host.Outcome State Fault Refusal :=
  finish (logicA (fun a m => a ^^^ m) (.mem (.sp2 eeff)) s)

/-- EOR, SP1, `9E E8` `ff` (R202). -/
def execEorSp1 (ff : Byte) (s : State) : Host.Outcome State Fault Refusal :=
  finish (logicA (fun a m => a ^^^ m) (.mem (.sp1 ff)) s)

/-- COMA, INH, `43` (R203). -/
def execComa (s : State) : Host.Outcome State Fault Refusal :=
  finish (modifyPlace .a comByte s)

/-- COMX, INH, `53` (R203). -/
def execComx (s : State) : Host.Outcome State Fault Refusal :=
  finish (modifyPlace .x comByte s)

/-- COM, DIR, `33` `dd` (R203). -/
def execComDir (dd : Byte) (s : State) : Host.Outcome State Fault Refusal :=
  finish (modifyPlace (.dir dd) comByte s)

/-- COM, IX1, `63` `ff` (R203). -/
def execComIx1 (ff : Byte) (s : State) : Host.Outcome State Fault Refusal :=
  finish (modifyPlace (.ix1 ff) comByte s)

/-- COM, IX, `73` (R203). -/
def execComIx (s : State) : Host.Outcome State Fault Refusal :=
  finish (modifyPlace .ix comByte s)

/-- COM, SP1, `9E 63` `ff` (R203). -/
def execComSp1 (ff : Byte) (s : State) : Host.Outcome State Fault Refusal :=
  finish (modifyPlace (.sp1 ff) comByte s)

end Sys2Proof.Machine
end

