-- ==== Sys2Proof/Machine/RotatesShifts.lean ====
section
/-! DEFINITION. Shifts and rotates by one bit: ASR, LSL (which ASL is, R108), LSR, ROL, ROR
(spec/44_rotates_shifts.md R189 to R195). -/

namespace Sys2Proof.Machine

/-- ASRA, INH, `47` (R191). -/
def execAsra (s : State) : Host.Outcome State Fault Refusal :=
  finish (modifyPlace .a asrByte s)

/-- ASRX, INH, `57` (R191). -/
def execAsrx (s : State) : Host.Outcome State Fault Refusal :=
  finish (modifyPlace .x asrByte s)

/-- ASR, DIR, `37` `dd` (R191). -/
def execAsrDir (dd : Byte) (s : State) : Host.Outcome State Fault Refusal :=
  finish (modifyPlace (.dir dd) asrByte s)

/-- ASR, IX1, `67` `ff` (R191). -/
def execAsrIx1 (ff : Byte) (s : State) : Host.Outcome State Fault Refusal :=
  finish (modifyPlace (.ix1 ff) asrByte s)

/-- ASR, IX, `77` (R191). -/
def execAsrIx (s : State) : Host.Outcome State Fault Refusal :=
  finish (modifyPlace .ix asrByte s)

/-- ASR, SP1, `9E 67` `ff` (R191). -/
def execAsrSp1 (ff : Byte) (s : State) : Host.Outcome State Fault Refusal :=
  finish (modifyPlace (.sp1 ff) asrByte s)

/-- LSLA, INH, `48` (R192). -/
def execLsla (s : State) : Host.Outcome State Fault Refusal :=
  finish (modifyPlace .a lslByte s)

/-- LSLX, INH, `58` (R192). -/
def execLslx (s : State) : Host.Outcome State Fault Refusal :=
  finish (modifyPlace .x lslByte s)

/-- LSL, DIR, `38` `dd` (R192). -/
def execLslDir (dd : Byte) (s : State) : Host.Outcome State Fault Refusal :=
  finish (modifyPlace (.dir dd) lslByte s)

/-- LSL, IX1, `68` `ff` (R192). -/
def execLslIx1 (ff : Byte) (s : State) : Host.Outcome State Fault Refusal :=
  finish (modifyPlace (.ix1 ff) lslByte s)

/-- LSL, IX, `78` (R192). -/
def execLslIx (s : State) : Host.Outcome State Fault Refusal :=
  finish (modifyPlace .ix lslByte s)

/-- LSL, SP1, `9E 68` `ff` (R192). -/
def execLslSp1 (ff : Byte) (s : State) : Host.Outcome State Fault Refusal :=
  finish (modifyPlace (.sp1 ff) lslByte s)

/-- LSRA, INH, `44` (R193). -/
def execLsra (s : State) : Host.Outcome State Fault Refusal :=
  finish (modifyPlace .a lsrByte s)

/-- LSRX, INH, `54` (R193). -/
def execLsrx (s : State) : Host.Outcome State Fault Refusal :=
  finish (modifyPlace .x lsrByte s)

/-- LSR, DIR, `34` `dd` (R193). -/
def execLsrDir (dd : Byte) (s : State) : Host.Outcome State Fault Refusal :=
  finish (modifyPlace (.dir dd) lsrByte s)

/-- LSR, IX1, `64` `ff` (R193). -/
def execLsrIx1 (ff : Byte) (s : State) : Host.Outcome State Fault Refusal :=
  finish (modifyPlace (.ix1 ff) lsrByte s)

/-- LSR, IX, `74` (R193). -/
def execLsrIx (s : State) : Host.Outcome State Fault Refusal :=
  finish (modifyPlace .ix lsrByte s)

/-- LSR, SP1, `9E 64` `ff` (R193). -/
def execLsrSp1 (ff : Byte) (s : State) : Host.Outcome State Fault Refusal :=
  finish (modifyPlace (.sp1 ff) lsrByte s)

/-- ROLA, INH, `49` (R194). -/
def execRola (s : State) : Host.Outcome State Fault Refusal :=
  finish (modifyPlace .a rolByte s)

/-- ROLX, INH, `59` (R194). -/
def execRolx (s : State) : Host.Outcome State Fault Refusal :=
  finish (modifyPlace .x rolByte s)

/-- ROL, DIR, `39` `dd` (R194). -/
def execRolDir (dd : Byte) (s : State) : Host.Outcome State Fault Refusal :=
  finish (modifyPlace (.dir dd) rolByte s)

/-- ROL, IX1, `69` `ff` (R194). -/
def execRolIx1 (ff : Byte) (s : State) : Host.Outcome State Fault Refusal :=
  finish (modifyPlace (.ix1 ff) rolByte s)

/-- ROL, IX, `79` (R194). -/
def execRolIx (s : State) : Host.Outcome State Fault Refusal :=
  finish (modifyPlace .ix rolByte s)

/-- ROL, SP1, `9E 69` `ff` (R194). -/
def execRolSp1 (ff : Byte) (s : State) : Host.Outcome State Fault Refusal :=
  finish (modifyPlace (.sp1 ff) rolByte s)

/-- RORA, INH, `46` (R195). -/
def execRora (s : State) : Host.Outcome State Fault Refusal :=
  finish (modifyPlace .a rorByte s)

/-- RORX, INH, `56` (R195). -/
def execRorx (s : State) : Host.Outcome State Fault Refusal :=
  finish (modifyPlace .x rorByte s)

/-- ROR, DIR, `36` `dd` (R195). -/
def execRorDir (dd : Byte) (s : State) : Host.Outcome State Fault Refusal :=
  finish (modifyPlace (.dir dd) rorByte s)

/-- ROR, IX1, `66` `ff` (R195). -/
def execRorIx1 (ff : Byte) (s : State) : Host.Outcome State Fault Refusal :=
  finish (modifyPlace (.ix1 ff) rorByte s)

/-- ROR, IX, `76` (R195). -/
def execRorIx (s : State) : Host.Outcome State Fault Refusal :=
  finish (modifyPlace .ix rorByte s)

/-- ROR, SP1, `9E 66` `ff` (R195). -/
def execRorSp1 (ff : Byte) (s : State) : Host.Outcome State Fault Refusal :=
  finish (modifyPlace (.sp1 ff) rorByte s)

end Sys2Proof.Machine
end

