-- ==== Sys2Proof/Machine/SignedBranches.lean ====
section
/-! DEFINITION. The signed branches, CBEQ and DBNZ (spec/48_signed_branches.md R260 to R265). -/

namespace Sys2Proof.Machine

/-- CBEQ with a byte of memory (R264): the branch is taken where A equals it; no flag changes. -/
def compareBranch (addr : Word) (len : Nat) (rr : Byte) (s : State) : Except Stop State := do
  let (m, s1) ← readByte addr s
  .ok { s1 with pc := s.branchTarget len rr (s.a == m) }

/-- CBEQ in the IX+ and IX1+ modes: H:X is incremented after the comparison, whether or not the branch is taken
(R264; spec/30_encoding.md R92, R93). -/
def compareBranchBump (addr : Word) (len : Nat) (rr : Byte) (s : State) : Except Stop State := do
  let s1 ← compareBranch addr len rr s
  .ok s1.bumpHx

/-- DBNZ (R265): the place is decremented and written back, and the branch is taken where the result is not 0; no
flag changes. -/
def decrementBranch (p : Place) (rr : Byte) (s : State) : Except Stop State := do
  let (v, s1) ← loadPlace p s
  let s2 ← storePlace p (v - 1) s1
  .ok { s2 with pc := s.branchTarget (placeLen p + 1) rr (v - 1 != 0) }

/-- BGE, REL, `90` `rr` (R260). -/
def execBge (rr : Byte) (s : State) : Host.Outcome State Fault Refusal :=
  .next (branchIf (!(s.ccr.n ^^ s.ccr.v)) rr s)

/-- BGT, REL, `92` `rr` (R261). -/
def execBgt (rr : Byte) (s : State) : Host.Outcome State Fault Refusal :=
  .next (branchIf (!(s.ccr.z || (s.ccr.n ^^ s.ccr.v))) rr s)

/-- BLE, REL, `93` `rr` (R262). -/
def execBle (rr : Byte) (s : State) : Host.Outcome State Fault Refusal :=
  .next (branchIf (s.ccr.z || (s.ccr.n ^^ s.ccr.v)) rr s)

/-- BLT, REL, `91` `rr` (R263). -/
def execBlt (rr : Byte) (s : State) : Host.Outcome State Fault Refusal :=
  .next (branchIf (s.ccr.n ^^ s.ccr.v) rr s)

/-- CBEQ, DIR_REL, `31` `dd rr` (R264). -/
def execCbeqDir (dd : Byte) (rr : Byte) (s : State) : Host.Outcome State Fault Refusal :=
  finish (compareBranch (zext16 dd) 3 rr s)

/-- CBEQA, IMM_REL, `41` `ii rr` (R264). -/
def execCbeqa (ii : Byte) (rr : Byte) (s : State) : Host.Outcome State Fault Refusal :=
  .next { s with pc := s.branchTarget 3 rr (s.a == ii) }

/-- CBEQX, IMM_REL, `51` `ii rr` (R264). -/
def execCbeqx (ii : Byte) (rr : Byte) (s : State) : Host.Outcome State Fault Refusal :=
  .next { s with pc := s.branchTarget 3 rr (s.x == ii) }

/-- CBEQ, IX1+_REL, `61` `ff rr` (R264). -/
def execCbeqIx1p (ff : Byte) (rr : Byte) (s : State) : Host.Outcome State Fault Refusal :=
  finish (compareBranchBump (s.hx + zext16 ff) 3 rr s)

/-- CBEQ, IX+_REL, `71` `rr` (R264). -/
def execCbeqIxp (rr : Byte) (s : State) : Host.Outcome State Fault Refusal :=
  finish (compareBranchBump s.hx 2 rr s)

/-- CBEQ, SP1_REL, `9E 61` `ff rr` (R264). -/
def execCbeqSp1 (ff : Byte) (rr : Byte) (s : State) : Host.Outcome State Fault Refusal :=
  finish (compareBranch (s.sp + zext16 ff) 4 rr s)

/-- DBNZA, INH_REL, `4B` `rr` (R265). -/
def execDbnza (rr : Byte) (s : State) : Host.Outcome State Fault Refusal :=
  finish (decrementBranch .a rr s)

/-- DBNZX, INH_REL, `5B` `rr` (R265). -/
def execDbnzx (rr : Byte) (s : State) : Host.Outcome State Fault Refusal :=
  finish (decrementBranch .x rr s)

/-- DBNZ, DIR_REL, `3B` `dd rr` (R265). -/
def execDbnzDir (dd : Byte) (rr : Byte) (s : State) : Host.Outcome State Fault Refusal :=
  finish (decrementBranch (.dir dd) rr s)

/-- DBNZ, IX1_REL, `6B` `ff rr` (R265). -/
def execDbnzIx1 (ff : Byte) (rr : Byte) (s : State) : Host.Outcome State Fault Refusal :=
  finish (decrementBranch (.ix1 ff) rr s)

/-- DBNZ, IX_REL, `7B` `rr` (R265). -/
def execDbnzIx (rr : Byte) (s : State) : Host.Outcome State Fault Refusal :=
  finish (decrementBranch .ix rr s)

/-- DBNZ, SP1_REL, `9E 6B` `ff rr` (R265). -/
def execDbnzSp1 (ff : Byte) (rr : Byte) (s : State) : Host.Outcome State Fault Refusal :=
  finish (decrementBranch (.sp1 ff) rr s)

end Sys2Proof.Machine
end

