-- ==== Sys2Proof/Machine/Dispatch.lean ====
section
/-! DEFINITION. What an instruction does: one arm for each constructor, one call of its meaning. -/

namespace Sys2Proof.Machine

def exec (i : Instr) (s : State) : Host.Outcome State Fault Refusal :=
  match i with
  -- Data movement (spec/40_data_movement.md R121 to R137)
  | .clrDir dd => Sys2Proof.Machine.execClrDir dd s
  | .clra => Sys2Proof.Machine.execClra s
  | .clrx => Sys2Proof.Machine.execClrx s
  | .clrh => Sys2Proof.Machine.execClrh s
  | .clrIx1 ff => Sys2Proof.Machine.execClrIx1 ff s
  | .clrIx => Sys2Proof.Machine.execClrIx s
  | .clrSp1 ff => Sys2Proof.Machine.execClrSp1 ff s
  | .ldaImm ii => Sys2Proof.Machine.execLdaImm ii s
  | .ldaDir dd => Sys2Proof.Machine.execLdaDir dd s
  | .ldaExt hhll => Sys2Proof.Machine.execLdaExt hhll s
  | .ldaIx2 eeff => Sys2Proof.Machine.execLdaIx2 eeff s
  | .ldaIx1 ff => Sys2Proof.Machine.execLdaIx1 ff s
  | .ldaIx => Sys2Proof.Machine.execLdaIx s
  | .ldaSp2 eeff => Sys2Proof.Machine.execLdaSp2 eeff s
  | .ldaSp1 ff => Sys2Proof.Machine.execLdaSp1 ff s
  | .staDir dd => Sys2Proof.Machine.execStaDir dd s
  | .staExt hhll => Sys2Proof.Machine.execStaExt hhll s
  | .staIx2 eeff => Sys2Proof.Machine.execStaIx2 eeff s
  | .staIx1 ff => Sys2Proof.Machine.execStaIx1 ff s
  | .staIx => Sys2Proof.Machine.execStaIx s
  | .staSp2 eeff => Sys2Proof.Machine.execStaSp2 eeff s
  | .staSp1 ff => Sys2Proof.Machine.execStaSp1 ff s
  | .ldxImm ii => Sys2Proof.Machine.execLdxImm ii s
  | .ldxDir dd => Sys2Proof.Machine.execLdxDir dd s
  | .ldxExt hhll => Sys2Proof.Machine.execLdxExt hhll s
  | .ldxIx2 eeff => Sys2Proof.Machine.execLdxIx2 eeff s
  | .ldxIx1 ff => Sys2Proof.Machine.execLdxIx1 ff s
  | .ldxIx => Sys2Proof.Machine.execLdxIx s
  | .ldxSp2 eeff => Sys2Proof.Machine.execLdxSp2 eeff s
  | .ldxSp1 ff => Sys2Proof.Machine.execLdxSp1 ff s
  | .stxDir dd => Sys2Proof.Machine.execStxDir dd s
  | .stxExt hhll => Sys2Proof.Machine.execStxExt hhll s
  | .stxIx2 eeff => Sys2Proof.Machine.execStxIx2 eeff s
  | .stxIx1 ff => Sys2Proof.Machine.execStxIx1 ff s
  | .stxIx => Sys2Proof.Machine.execStxIx s
  | .stxSp2 eeff => Sys2Proof.Machine.execStxSp2 eeff s
  | .stxSp1 ff => Sys2Proof.Machine.execStxSp1 ff s
  | .nsa => Sys2Proof.Machine.execNsa s
  | .tax => Sys2Proof.Machine.execTax s
  | .txa => Sys2Proof.Machine.execTxa s
  | .ldhxImm jjkk => Sys2Proof.Machine.execLdhxImm jjkk s
  | .ldhxDir dd => Sys2Proof.Machine.execLdhxDir dd s
  | .sthxDir dd => Sys2Proof.Machine.execSthxDir dd s
  | .movDirDir src dst => Sys2Proof.Machine.execMovDirDir src dst s
  | .movDirIxp src => Sys2Proof.Machine.execMovDirIxp src s
  | .movImmDir ii dst => Sys2Proof.Machine.execMovImmDir ii dst s
  | .movIxpDir dst => Sys2Proof.Machine.execMovIxpDir dst s
  | .psha => Sys2Proof.Machine.execPsha s
  | .pula => Sys2Proof.Machine.execPula s
  | .pshh => Sys2Proof.Machine.execPshh s
  | .pulh => Sys2Proof.Machine.execPulh s
  | .pshx => Sys2Proof.Machine.execPshx s
  | .pulx => Sys2Proof.Machine.execPulx s
  -- Bit-oriented (spec/41_bit_oriented.md R150, R151)
  | .bset0 dd => Sys2Proof.Machine.execBset0 dd s
  | .bset1 dd => Sys2Proof.Machine.execBset1 dd s
  | .bset2 dd => Sys2Proof.Machine.execBset2 dd s
  | .bset3 dd => Sys2Proof.Machine.execBset3 dd s
  | .bset4 dd => Sys2Proof.Machine.execBset4 dd s
  | .bset5 dd => Sys2Proof.Machine.execBset5 dd s
  | .bset6 dd => Sys2Proof.Machine.execBset6 dd s
  | .bset7 dd => Sys2Proof.Machine.execBset7 dd s
  | .bclr0 dd => Sys2Proof.Machine.execBclr0 dd s
  | .bclr1 dd => Sys2Proof.Machine.execBclr1 dd s
  | .bclr2 dd => Sys2Proof.Machine.execBclr2 dd s
  | .bclr3 dd => Sys2Proof.Machine.execBclr3 dd s
  | .bclr4 dd => Sys2Proof.Machine.execBclr4 dd s
  | .bclr5 dd => Sys2Proof.Machine.execBclr5 dd s
  | .bclr6 dd => Sys2Proof.Machine.execBclr6 dd s
  | .bclr7 dd => Sys2Proof.Machine.execBclr7 dd s
  -- Two-operand arithmetic (spec/42_arithmetic_dyadic.md R161 to R167)
  | .addImm ii => Sys2Proof.Machine.execAddImm ii s
  | .addDir dd => Sys2Proof.Machine.execAddDir dd s
  | .addExt hhll => Sys2Proof.Machine.execAddExt hhll s
  | .addIx2 eeff => Sys2Proof.Machine.execAddIx2 eeff s
  | .addIx1 ff => Sys2Proof.Machine.execAddIx1 ff s
  | .addIx => Sys2Proof.Machine.execAddIx s
  | .addSp2 eeff => Sys2Proof.Machine.execAddSp2 eeff s
  | .addSp1 ff => Sys2Proof.Machine.execAddSp1 ff s
  | .subImm ii => Sys2Proof.Machine.execSubImm ii s
  | .subDir dd => Sys2Proof.Machine.execSubDir dd s
  | .subExt hhll => Sys2Proof.Machine.execSubExt hhll s
  | .subIx2 eeff => Sys2Proof.Machine.execSubIx2 eeff s
  | .subIx1 ff => Sys2Proof.Machine.execSubIx1 ff s
  | .subIx => Sys2Proof.Machine.execSubIx s
  | .subSp2 eeff => Sys2Proof.Machine.execSubSp2 eeff s
  | .subSp1 ff => Sys2Proof.Machine.execSubSp1 ff s
  | .adcImm ii => Sys2Proof.Machine.execAdcImm ii s
  | .adcDir dd => Sys2Proof.Machine.execAdcDir dd s
  | .adcExt hhll => Sys2Proof.Machine.execAdcExt hhll s
  | .adcIx2 eeff => Sys2Proof.Machine.execAdcIx2 eeff s
  | .adcIx1 ff => Sys2Proof.Machine.execAdcIx1 ff s
  | .adcIx => Sys2Proof.Machine.execAdcIx s
  | .adcSp2 eeff => Sys2Proof.Machine.execAdcSp2 eeff s
  | .adcSp1 ff => Sys2Proof.Machine.execAdcSp1 ff s
  | .sbcImm ii => Sys2Proof.Machine.execSbcImm ii s
  | .sbcDir dd => Sys2Proof.Machine.execSbcDir dd s
  | .sbcExt hhll => Sys2Proof.Machine.execSbcExt hhll s
  | .sbcIx2 eeff => Sys2Proof.Machine.execSbcIx2 eeff s
  | .sbcIx1 ff => Sys2Proof.Machine.execSbcIx1 ff s
  | .sbcIx => Sys2Proof.Machine.execSbcIx s
  | .sbcSp2 eeff => Sys2Proof.Machine.execSbcSp2 eeff s
  | .sbcSp1 ff => Sys2Proof.Machine.execSbcSp1 ff s
  | .daa => Sys2Proof.Machine.execDaa s
  | .mul => Sys2Proof.Machine.execMul s
  | .div => Sys2Proof.Machine.execDiv s
  -- One-operand arithmetic (spec/43_arithmetic_monadic.md R180 to R184)
  | .decDir dd => Sys2Proof.Machine.execDecDir dd s
  | .deca => Sys2Proof.Machine.execDeca s
  | .decx => Sys2Proof.Machine.execDecx s
  | .decIx1 ff => Sys2Proof.Machine.execDecIx1 ff s
  | .decIx => Sys2Proof.Machine.execDecIx s
  | .decSp1 ff => Sys2Proof.Machine.execDecSp1 ff s
  | .incDir dd => Sys2Proof.Machine.execIncDir dd s
  | .inca => Sys2Proof.Machine.execInca s
  | .incx => Sys2Proof.Machine.execIncx s
  | .incIx1 ff => Sys2Proof.Machine.execIncIx1 ff s
  | .incIx => Sys2Proof.Machine.execIncIx s
  | .incSp1 ff => Sys2Proof.Machine.execIncSp1 ff s
  | .negDir dd => Sys2Proof.Machine.execNegDir dd s
  | .nega => Sys2Proof.Machine.execNega s
  | .negx => Sys2Proof.Machine.execNegx s
  | .negIx1 ff => Sys2Proof.Machine.execNegIx1 ff s
  | .negIx => Sys2Proof.Machine.execNegIx s
  | .negSp1 ff => Sys2Proof.Machine.execNegSp1 ff s
  | .ais ii => Sys2Proof.Machine.execAis ii s
  | .aix ii => Sys2Proof.Machine.execAix ii s
  -- Shifts and rotates (spec/44_rotates_shifts.md R190 to R195); ASL is LSL (R108)
  | .asrDir dd => Sys2Proof.Machine.execAsrDir dd s
  | .asra => Sys2Proof.Machine.execAsra s
  | .asrx => Sys2Proof.Machine.execAsrx s
  | .asrIx1 ff => Sys2Proof.Machine.execAsrIx1 ff s
  | .asrIx => Sys2Proof.Machine.execAsrIx s
  | .asrSp1 ff => Sys2Proof.Machine.execAsrSp1 ff s
  | .lslDir dd => Sys2Proof.Machine.execLslDir dd s
  | .lsla => Sys2Proof.Machine.execLsla s
  | .lslx => Sys2Proof.Machine.execLslx s
  | .lslIx1 ff => Sys2Proof.Machine.execLslIx1 ff s
  | .lslIx => Sys2Proof.Machine.execLslIx s
  | .lslSp1 ff => Sys2Proof.Machine.execLslSp1 ff s
  | .lsrDir dd => Sys2Proof.Machine.execLsrDir dd s
  | .lsra => Sys2Proof.Machine.execLsra s
  | .lsrx => Sys2Proof.Machine.execLsrx s
  | .lsrIx1 ff => Sys2Proof.Machine.execLsrIx1 ff s
  | .lsrIx => Sys2Proof.Machine.execLsrIx s
  | .lsrSp1 ff => Sys2Proof.Machine.execLsrSp1 ff s
  | .rolDir dd => Sys2Proof.Machine.execRolDir dd s
  | .rola => Sys2Proof.Machine.execRola s
  | .rolx => Sys2Proof.Machine.execRolx s
  | .rolIx1 ff => Sys2Proof.Machine.execRolIx1 ff s
  | .rolIx => Sys2Proof.Machine.execRolIx s
  | .rolSp1 ff => Sys2Proof.Machine.execRolSp1 ff s
  | .rorDir dd => Sys2Proof.Machine.execRorDir dd s
  | .rora => Sys2Proof.Machine.execRora s
  | .rorx => Sys2Proof.Machine.execRorx s
  | .rorIx1 ff => Sys2Proof.Machine.execRorIx1 ff s
  | .rorIx => Sys2Proof.Machine.execRorIx s
  | .rorSp1 ff => Sys2Proof.Machine.execRorSp1 ff s
  -- Logic (spec/45_logic.md R200 to R203)
  | .andImm ii => Sys2Proof.Machine.execAndImm ii s
  | .andDir dd => Sys2Proof.Machine.execAndDir dd s
  | .andExt hhll => Sys2Proof.Machine.execAndExt hhll s
  | .andIx2 eeff => Sys2Proof.Machine.execAndIx2 eeff s
  | .andIx1 ff => Sys2Proof.Machine.execAndIx1 ff s
  | .andIx => Sys2Proof.Machine.execAndIx s
  | .andSp2 eeff => Sys2Proof.Machine.execAndSp2 eeff s
  | .andSp1 ff => Sys2Proof.Machine.execAndSp1 ff s
  | .oraImm ii => Sys2Proof.Machine.execOraImm ii s
  | .oraDir dd => Sys2Proof.Machine.execOraDir dd s
  | .oraExt hhll => Sys2Proof.Machine.execOraExt hhll s
  | .oraIx2 eeff => Sys2Proof.Machine.execOraIx2 eeff s
  | .oraIx1 ff => Sys2Proof.Machine.execOraIx1 ff s
  | .oraIx => Sys2Proof.Machine.execOraIx s
  | .oraSp2 eeff => Sys2Proof.Machine.execOraSp2 eeff s
  | .oraSp1 ff => Sys2Proof.Machine.execOraSp1 ff s
  | .eorImm ii => Sys2Proof.Machine.execEorImm ii s
  | .eorDir dd => Sys2Proof.Machine.execEorDir dd s
  | .eorExt hhll => Sys2Proof.Machine.execEorExt hhll s
  | .eorIx2 eeff => Sys2Proof.Machine.execEorIx2 eeff s
  | .eorIx1 ff => Sys2Proof.Machine.execEorIx1 ff s
  | .eorIx => Sys2Proof.Machine.execEorIx s
  | .eorSp2 eeff => Sys2Proof.Machine.execEorSp2 eeff s
  | .eorSp1 ff => Sys2Proof.Machine.execEorSp1 ff s
  | .comDir dd => Sys2Proof.Machine.execComDir dd s
  | .coma => Sys2Proof.Machine.execComa s
  | .comx => Sys2Proof.Machine.execComx s
  | .comIx1 ff => Sys2Proof.Machine.execComIx1 ff s
  | .comIx => Sys2Proof.Machine.execComIx s
  | .comSp1 ff => Sys2Proof.Machine.execComSp1 ff s
  -- Compare, test, bit test and branch (spec/46_data_compare.md R210 to R216)
  | .cmpImm ii => Sys2Proof.Machine.execCmpImm ii s
  | .cmpDir dd => Sys2Proof.Machine.execCmpDir dd s
  | .cmpExt hhll => Sys2Proof.Machine.execCmpExt hhll s
  | .cmpIx2 eeff => Sys2Proof.Machine.execCmpIx2 eeff s
  | .cmpIx1 ff => Sys2Proof.Machine.execCmpIx1 ff s
  | .cmpIx => Sys2Proof.Machine.execCmpIx s
  | .cmpSp2 eeff => Sys2Proof.Machine.execCmpSp2 eeff s
  | .cmpSp1 ff => Sys2Proof.Machine.execCmpSp1 ff s
  | .cpxImm ii => Sys2Proof.Machine.execCpxImm ii s
  | .cpxDir dd => Sys2Proof.Machine.execCpxDir dd s
  | .cpxExt hhll => Sys2Proof.Machine.execCpxExt hhll s
  | .cpxIx2 eeff => Sys2Proof.Machine.execCpxIx2 eeff s
  | .cpxIx1 ff => Sys2Proof.Machine.execCpxIx1 ff s
  | .cpxIx => Sys2Proof.Machine.execCpxIx s
  | .cpxSp2 eeff => Sys2Proof.Machine.execCpxSp2 eeff s
  | .cpxSp1 ff => Sys2Proof.Machine.execCpxSp1 ff s
  | .cphxImm jjkk => Sys2Proof.Machine.execCphxImm jjkk s
  | .cphxDir dd => Sys2Proof.Machine.execCphxDir dd s
  | .bitImm ii => Sys2Proof.Machine.execBitImm ii s
  | .bitDir dd => Sys2Proof.Machine.execBitDir dd s
  | .bitExt hhll => Sys2Proof.Machine.execBitExt hhll s
  | .bitIx2 eeff => Sys2Proof.Machine.execBitIx2 eeff s
  | .bitIx1 ff => Sys2Proof.Machine.execBitIx1 ff s
  | .bitIx => Sys2Proof.Machine.execBitIx s
  | .bitSp2 eeff => Sys2Proof.Machine.execBitSp2 eeff s
  | .bitSp1 ff => Sys2Proof.Machine.execBitSp1 ff s
  | .tstDir dd => Sys2Proof.Machine.execTstDir dd s
  | .tsta => Sys2Proof.Machine.execTsta s
  | .tstx => Sys2Proof.Machine.execTstx s
  | .tstIx1 ff => Sys2Proof.Machine.execTstIx1 ff s
  | .tstIx => Sys2Proof.Machine.execTstIx s
  | .tstSp1 ff => Sys2Proof.Machine.execTstSp1 ff s
  | .brclr0 dd rr => Sys2Proof.Machine.execBrclr0 dd rr s
  | .brclr1 dd rr => Sys2Proof.Machine.execBrclr1 dd rr s
  | .brclr2 dd rr => Sys2Proof.Machine.execBrclr2 dd rr s
  | .brclr3 dd rr => Sys2Proof.Machine.execBrclr3 dd rr s
  | .brclr4 dd rr => Sys2Proof.Machine.execBrclr4 dd rr s
  | .brclr5 dd rr => Sys2Proof.Machine.execBrclr5 dd rr s
  | .brclr6 dd rr => Sys2Proof.Machine.execBrclr6 dd rr s
  | .brclr7 dd rr => Sys2Proof.Machine.execBrclr7 dd rr s
  | .brset0 dd rr => Sys2Proof.Machine.execBrset0 dd rr s
  | .brset1 dd rr => Sys2Proof.Machine.execBrset1 dd rr s
  | .brset2 dd rr => Sys2Proof.Machine.execBrset2 dd rr s
  | .brset3 dd rr => Sys2Proof.Machine.execBrset3 dd rr s
  | .brset4 dd rr => Sys2Proof.Machine.execBrset4 dd rr s
  | .brset5 dd rr => Sys2Proof.Machine.execBrset5 dd rr s
  | .brset6 dd rr => Sys2Proof.Machine.execBrset6 dd rr s
  | .brset7 dd rr => Sys2Proof.Machine.execBrset7 dd rr s
  -- Branches (spec/47_branches.md R231 to R249); BHS is BCC, BLO is BCS (R108)
  | .bra rr => Sys2Proof.Machine.execBra rr s
  | .brn rr => Sys2Proof.Machine.execBrn rr s
  | .beq rr => Sys2Proof.Machine.execBeq rr s
  | .bne rr => Sys2Proof.Machine.execBne rr s
  | .bsr rr => Sys2Proof.Machine.execBsr rr s
  | .bhi rr => Sys2Proof.Machine.execBhi rr s
  | .bls rr => Sys2Proof.Machine.execBls rr s
  | .bpl rr => Sys2Proof.Machine.execBpl rr s
  | .bmi rr => Sys2Proof.Machine.execBmi rr s
  | .bcc rr => Sys2Proof.Machine.execBcc rr s
  | .bcs rr => Sys2Proof.Machine.execBcs rr s
  | .bhcc rr => Sys2Proof.Machine.execBhcc rr s
  | .bhcs rr => Sys2Proof.Machine.execBhcs rr s
  | .bmc rr => Sys2Proof.Machine.execBmc rr s
  | .bms rr => Sys2Proof.Machine.execBms rr s
  | .bih rr => Sys2Proof.Machine.execBih rr s
  | .bil rr => Sys2Proof.Machine.execBil rr s
  -- Signed branches, CBEQ, DBNZ (spec/48_signed_branches.md R260 to R265)
  | .bge rr => Sys2Proof.Machine.execBge rr s
  | .bgt rr => Sys2Proof.Machine.execBgt rr s
  | .ble rr => Sys2Proof.Machine.execBle rr s
  | .blt rr => Sys2Proof.Machine.execBlt rr s
  | .cbeqDir dd rr => Sys2Proof.Machine.execCbeqDir dd rr s
  | .cbeqa ii rr => Sys2Proof.Machine.execCbeqa ii rr s
  | .cbeqx ii rr => Sys2Proof.Machine.execCbeqx ii rr s
  | .cbeqIx1p ff rr => Sys2Proof.Machine.execCbeqIx1p ff rr s
  | .cbeqIxp rr => Sys2Proof.Machine.execCbeqIxp rr s
  | .cbeqSp1 ff rr => Sys2Proof.Machine.execCbeqSp1 ff rr s
  | .dbnzDir dd rr => Sys2Proof.Machine.execDbnzDir dd rr s
  | .dbnza rr => Sys2Proof.Machine.execDbnza rr s
  | .dbnzx rr => Sys2Proof.Machine.execDbnzx rr s
  | .dbnzIx1 ff rr => Sys2Proof.Machine.execDbnzIx1 ff rr s
  | .dbnzIx rr => Sys2Proof.Machine.execDbnzIx rr s
  | .dbnzSp1 ff rr => Sys2Proof.Machine.execDbnzSp1 ff rr s
  -- Jumps, returns and control (spec/49_jump_return_control.md R280 to R296)
  | .jmpDir dd => Sys2Proof.Machine.execJmpDir dd s
  | .jmpExt hhll => Sys2Proof.Machine.execJmpExt hhll s
  | .jmpIx2 eeff => Sys2Proof.Machine.execJmpIx2 eeff s
  | .jmpIx1 ff => Sys2Proof.Machine.execJmpIx1 ff s
  | .jmpIx => Sys2Proof.Machine.execJmpIx s
  | .jsrDir dd => Sys2Proof.Machine.execJsrDir dd s
  | .jsrExt hhll => Sys2Proof.Machine.execJsrExt hhll s
  | .jsrIx2 eeff => Sys2Proof.Machine.execJsrIx2 eeff s
  | .jsrIx1 ff => Sys2Proof.Machine.execJsrIx1 ff s
  | .jsrIx => Sys2Proof.Machine.execJsrIx s
  | .rts => Sys2Proof.Machine.execRts s
  | .sec => Sys2Proof.Machine.execSec s
  | .clc => Sys2Proof.Machine.execClc s
  | .cli => Sys2Proof.Machine.execCli s
  | .sei => Sys2Proof.Machine.execSei s
  | .swi => Sys2Proof.Machine.execSwi s
  | .rti => Sys2Proof.Machine.execRti s
  | .rsp => Sys2Proof.Machine.execRsp s
  | .nop => Sys2Proof.Machine.execNop s
  | .wait => Sys2Proof.Machine.execWait s
  | .stop => Sys2Proof.Machine.execStop s
  | .tap => Sys2Proof.Machine.execTap s
  | .tpa => Sys2Proof.Machine.execTpa s
  | .txs => Sys2Proof.Machine.execTxs s
  | .tsx => Sys2Proof.Machine.execTsx s

end Sys2Proof.Machine
end

