-- ==== Sys2Proof/Decode.lean ====
section
/-! DEFINITION. The decoder: the two-page opcode map of spec/30_encoding.md R99, one list for each high nibble,
and the decode algorithm of R83, total on any bytes. After it the encoder, from the encoding tables of the
instruction rules, and `decodeTableWord`. -/

namespace Sys2Proof

/-- What an opcode stands for: an instruction that takes no operand byte, one, two, or two that form a 16-bit
value with the high byte first (R51, R81). -/
inductive Row
  | unassigned
  | op0 (i : Instr)
  | op1 (f : Byte → Instr)
  | op2 (f : Byte → Byte → Instr)
  | opw (f : Word → Instr)

/-- What the decoder says of a list of bytes. -/
inductive Decoded
  /-- an instruction, and how many bytes it has (R84) -/
  | instr (i : Instr) (len : Nat)
  /-- the bytes end before the instruction does -/
  | short
  /-- the opcode, of one byte or two, is assigned to no instruction (R102, R103) -/
  | illegal (opcode : List Byte)
deriving DecidableEq, Repr

namespace Opcodes

/-- Page 1, opcodes `00` to `0F` (R99). -/
def page1Row0 : List Row :=
  [ .op2 .brset0, .op2 .brclr0, .op2 .brset1, .op2 .brclr1,
    .op2 .brset2, .op2 .brclr2, .op2 .brset3, .op2 .brclr3,
    .op2 .brset4, .op2 .brclr4, .op2 .brset5, .op2 .brclr5,
    .op2 .brset6, .op2 .brclr6, .op2 .brset7, .op2 .brclr7 ]

/-- Page 1, opcodes `10` to `1F` (R99). -/
def page1Row1 : List Row :=
  [ .op1 .bset0, .op1 .bclr0, .op1 .bset1, .op1 .bclr1,
    .op1 .bset2, .op1 .bclr2, .op1 .bset3, .op1 .bclr3,
    .op1 .bset4, .op1 .bclr4, .op1 .bset5, .op1 .bclr5,
    .op1 .bset6, .op1 .bclr6, .op1 .bset7, .op1 .bclr7 ]

/-- Page 1, opcodes `20` to `2F` (R99). -/
def page1Row2 : List Row :=
  [ .op1 .bra, .op1 .brn, .op1 .bhi, .op1 .bls,
    .op1 .bcc, .op1 .bcs, .op1 .bne, .op1 .beq,
    .op1 .bhcc, .op1 .bhcs, .op1 .bpl, .op1 .bmi,
    .op1 .bmc, .op1 .bms, .op1 .bil, .op1 .bih ]

/-- Page 1, opcodes `30` to `3F` (R99). -/
def page1Row3 : List Row :=
  [ .op1 .negDir, .op2 .cbeqDir, .unassigned, .op1 .comDir,
    .op1 .lsrDir, .op1 .sthxDir, .op1 .rorDir, .op1 .asrDir,
    .op1 .lslDir, .op1 .rolDir, .op1 .decDir, .op2 .dbnzDir,
    .op1 .incDir, .op1 .tstDir, .unassigned, .op1 .clrDir ]

/-- Page 1, opcodes `40` to `4F` (R99). -/
def page1Row4 : List Row :=
  [ .op0 .nega, .op2 .cbeqa, .op0 .mul, .op0 .coma,
    .op0 .lsra, .opw .ldhxImm, .op0 .rora, .op0 .asra,
    .op0 .lsla, .op0 .rola, .op0 .deca, .op1 .dbnza,
    .op0 .inca, .op0 .tsta, .op2 .movDirDir, .op0 .clra ]

/-- Page 1, opcodes `50` to `5F` (R99). -/
def page1Row5 : List Row :=
  [ .op0 .negx, .op2 .cbeqx, .op0 .div, .op0 .comx,
    .op0 .lsrx, .op1 .ldhxDir, .op0 .rorx, .op0 .asrx,
    .op0 .lslx, .op0 .rolx, .op0 .decx, .op1 .dbnzx,
    .op0 .incx, .op0 .tstx, .op1 .movDirIxp, .op0 .clrx ]

/-- Page 1, opcodes `60` to `6F` (R99). -/
def page1Row6 : List Row :=
  [ .op1 .negIx1, .op2 .cbeqIx1p, .op0 .nsa, .op1 .comIx1,
    .op1 .lsrIx1, .opw .cphxImm, .op1 .rorIx1, .op1 .asrIx1,
    .op1 .lslIx1, .op1 .rolIx1, .op1 .decIx1, .op2 .dbnzIx1,
    .op1 .incIx1, .op1 .tstIx1, .op2 .movImmDir, .op1 .clrIx1 ]

/-- Page 1, opcodes `70` to `7F` (R99). -/
def page1Row7 : List Row :=
  [ .op0 .negIx, .op1 .cbeqIxp, .op0 .daa, .op0 .comIx,
    .op0 .lsrIx, .op1 .cphxDir, .op0 .rorIx, .op0 .asrIx,
    .op0 .lslIx, .op0 .rolIx, .op0 .decIx, .op1 .dbnzIx,
    .op0 .incIx, .op0 .tstIx, .op1 .movIxpDir, .op0 .clrIx ]

/-- Page 1, opcodes `80` to `8F` (R99). -/
def page1Row8 : List Row :=
  [ .op0 .rti, .op0 .rts, .unassigned, .op0 .swi,
    .op0 .tap, .op0 .tpa, .op0 .pula, .op0 .psha,
    .op0 .pulx, .op0 .pshx, .op0 .pulh, .op0 .pshh,
    .op0 .clrh, .unassigned, .op0 .stop, .op0 .wait ]

/-- Page 1, opcodes `90` to `9F` (R99). The byte `9E` is the prefix, no instruction of its own (R82). -/
def page1Row9 : List Row :=
  [ .op1 .bge, .op1 .blt, .op1 .bgt, .op1 .ble,
    .op0 .txs, .op0 .tsx, .unassigned, .op0 .tax,
    .op0 .clc, .op0 .sec, .op0 .cli, .op0 .sei,
    .op0 .rsp, .op0 .nop, .unassigned, .op0 .txa ]

/-- Page 1, opcodes `A0` to `AF` (R99). -/
def page1RowA : List Row :=
  [ .op1 .subImm, .op1 .cmpImm, .op1 .sbcImm, .op1 .cpxImm,
    .op1 .andImm, .op1 .bitImm, .op1 .ldaImm, .op1 .ais,
    .op1 .eorImm, .op1 .adcImm, .op1 .oraImm, .op1 .addImm,
    .unassigned, .op1 .bsr, .op1 .ldxImm, .op1 .aix ]

/-- Page 1, opcodes `B0` to `BF` (R99). -/
def page1RowB : List Row :=
  [ .op1 .subDir, .op1 .cmpDir, .op1 .sbcDir, .op1 .cpxDir,
    .op1 .andDir, .op1 .bitDir, .op1 .ldaDir, .op1 .staDir,
    .op1 .eorDir, .op1 .adcDir, .op1 .oraDir, .op1 .addDir,
    .op1 .jmpDir, .op1 .jsrDir, .op1 .ldxDir, .op1 .stxDir ]

/-- Page 1, opcodes `C0` to `CF` (R99). -/
def page1RowC : List Row :=
  [ .opw .subExt, .opw .cmpExt, .opw .sbcExt, .opw .cpxExt,
    .opw .andExt, .opw .bitExt, .opw .ldaExt, .opw .staExt,
    .opw .eorExt, .opw .adcExt, .opw .oraExt, .opw .addExt,
    .opw .jmpExt, .opw .jsrExt, .opw .ldxExt, .opw .stxExt ]

/-- Page 1, opcodes `D0` to `DF` (R99). -/
def page1RowD : List Row :=
  [ .opw .subIx2, .opw .cmpIx2, .opw .sbcIx2, .opw .cpxIx2,
    .opw .andIx2, .opw .bitIx2, .opw .ldaIx2, .opw .staIx2,
    .opw .eorIx2, .opw .adcIx2, .opw .oraIx2, .opw .addIx2,
    .opw .jmpIx2, .opw .jsrIx2, .opw .ldxIx2, .opw .stxIx2 ]

/-- Page 1, opcodes `E0` to `EF` (R99). -/
def page1RowE : List Row :=
  [ .op1 .subIx1, .op1 .cmpIx1, .op1 .sbcIx1, .op1 .cpxIx1,
    .op1 .andIx1, .op1 .bitIx1, .op1 .ldaIx1, .op1 .staIx1,
    .op1 .eorIx1, .op1 .adcIx1, .op1 .oraIx1, .op1 .addIx1,
    .op1 .jmpIx1, .op1 .jsrIx1, .op1 .ldxIx1, .op1 .stxIx1 ]

/-- Page 1, opcodes `F0` to `FF` (R99). -/
def page1RowF : List Row :=
  [ .op0 .subIx, .op0 .cmpIx, .op0 .sbcIx, .op0 .cpxIx,
    .op0 .andIx, .op0 .bitIx, .op0 .ldaIx, .op0 .staIx,
    .op0 .eorIx, .op0 .adcIx, .op0 .oraIx, .op0 .addIx,
    .op0 .jmpIx, .op0 .jsrIx, .op0 .ldxIx, .op0 .stxIx ]

/-- Page 2, opcodes `9E60` to `9E6F` (R82, R99). -/
def page2Row6 : List Row :=
  [ .op1 .negSp1, .op2 .cbeqSp1, .unassigned, .op1 .comSp1,
    .op1 .lsrSp1, .unassigned, .op1 .rorSp1, .op1 .asrSp1,
    .op1 .lslSp1, .op1 .rolSp1, .op1 .decSp1, .op2 .dbnzSp1,
    .op1 .incSp1, .op1 .tstSp1, .unassigned, .op1 .clrSp1 ]

/-- Page 2, opcodes `9ED0` to `9EDF` (R82, R99). -/
def page2RowD : List Row :=
  [ .opw .subSp2, .opw .cmpSp2, .opw .sbcSp2, .opw .cpxSp2,
    .opw .andSp2, .opw .bitSp2, .opw .ldaSp2, .opw .staSp2,
    .opw .eorSp2, .opw .adcSp2, .opw .oraSp2, .opw .addSp2,
    .unassigned, .unassigned, .opw .ldxSp2, .opw .stxSp2 ]

/-- Page 2, opcodes `9EE0` to `9EEF` (R82, R99). -/
def page2RowE : List Row :=
  [ .op1 .subSp1, .op1 .cmpSp1, .op1 .sbcSp1, .op1 .cpxSp1,
    .op1 .andSp1, .op1 .bitSp1, .op1 .ldaSp1, .op1 .staSp1,
    .op1 .eorSp1, .op1 .adcSp1, .op1 .oraSp1, .op1 .addSp1,
    .unassigned, .unassigned, .op1 .ldxSp1, .op1 .stxSp1 ]

/-- The rows of page 1 by high nibble. -/
def page1 : List (List Row) :=
  [ page1Row0, page1Row1, page1Row2, page1Row3, page1Row4, page1Row5, page1Row6, page1Row7,
    page1Row8, page1Row9, page1RowA, page1RowB, page1RowC, page1RowD, page1RowE, page1RowF ]

/-- The rows of page 2 by high nibble: only three have assigned opcodes. -/
def page2 : List (List Row) :=
  [ [], [], [], [], [], [], page2Row6, [], [], [], [], [], [], page2RowD, page2RowE, [] ]

/-- The cell of a page for an opcode byte. -/
def cell (page : List (List Row)) (b : Byte) : Row :=
  (page.getD (b.toNat / 16) []).getD (b.toNat % 16) .unassigned

end Opcodes

/-- Gives an opcode's row its operand bytes. -/
def Row.fill (row : Row) (opcode operands : List Byte) : Decoded :=
  match row, operands with
  | .unassigned, _ => .illegal opcode
  | .op0 i, _ => .instr i opcode.length
  | .op1 f, b :: _ => .instr (f b) (opcode.length + 1)
  | .op2 f, b :: b' :: _ => .instr (f b b') (opcode.length + 2)
  | .opw f, b :: b' :: _ => .instr (f (joinBytes b b')) (opcode.length + 2)
  | .op1 _, [] => .short
  | .op2 _, _ => .short
  | .opw _, _ => .short

/-- The decode algorithm (R83). -/
def decode (bytes : List Byte) : Decoded :=
  match bytes with
  | [] => .short
  | b0 :: rest =>
    if b0 = 0x9E#8 then
      match rest with
      | [] => .short
      | b1 :: rest' => (Opcodes.cell Opcodes.page2 b1).fill [b0, b1] rest'
    else (Opcodes.cell Opcodes.page1 b0).fill [b0] rest

/-- The bytes of an instruction in ascending order of address (R51, R80). -/
def encode (i : Instr) : List Byte :=
  match i with
  | .clrDir dd => [0x3F#8, dd]
  | .clra => [0x4F#8]
  | .clrx => [0x5F#8]
  | .clrh => [0x8C#8]
  | .clrIx1 ff => [0x6F#8, ff]
  | .clrIx => [0x7F#8]
  | .clrSp1 ff => [0x9E#8, 0x6F#8, ff]
  | .ldaImm ii => [0xA6#8, ii]
  | .ldaDir dd => [0xB6#8, dd]
  | .ldaExt hhll => [0xC6#8, hiByte hhll, loByte hhll]
  | .ldaIx2 eeff => [0xD6#8, hiByte eeff, loByte eeff]
  | .ldaIx1 ff => [0xE6#8, ff]
  | .ldaIx => [0xF6#8]
  | .ldaSp2 eeff => [0x9E#8, 0xD6#8, hiByte eeff, loByte eeff]
  | .ldaSp1 ff => [0x9E#8, 0xE6#8, ff]
  | .staDir dd => [0xB7#8, dd]
  | .staExt hhll => [0xC7#8, hiByte hhll, loByte hhll]
  | .staIx2 eeff => [0xD7#8, hiByte eeff, loByte eeff]
  | .staIx1 ff => [0xE7#8, ff]
  | .staIx => [0xF7#8]
  | .staSp2 eeff => [0x9E#8, 0xD7#8, hiByte eeff, loByte eeff]
  | .staSp1 ff => [0x9E#8, 0xE7#8, ff]
  | .ldxImm ii => [0xAE#8, ii]
  | .ldxDir dd => [0xBE#8, dd]
  | .ldxExt hhll => [0xCE#8, hiByte hhll, loByte hhll]
  | .ldxIx2 eeff => [0xDE#8, hiByte eeff, loByte eeff]
  | .ldxIx1 ff => [0xEE#8, ff]
  | .ldxIx => [0xFE#8]
  | .ldxSp2 eeff => [0x9E#8, 0xDE#8, hiByte eeff, loByte eeff]
  | .ldxSp1 ff => [0x9E#8, 0xEE#8, ff]
  | .stxDir dd => [0xBF#8, dd]
  | .stxExt hhll => [0xCF#8, hiByte hhll, loByte hhll]
  | .stxIx2 eeff => [0xDF#8, hiByte eeff, loByte eeff]
  | .stxIx1 ff => [0xEF#8, ff]
  | .stxIx => [0xFF#8]
  | .stxSp2 eeff => [0x9E#8, 0xDF#8, hiByte eeff, loByte eeff]
  | .stxSp1 ff => [0x9E#8, 0xEF#8, ff]
  | .nsa => [0x62#8]
  | .tax => [0x97#8]
  | .txa => [0x9F#8]
  | .ldhxImm jjkk => [0x45#8, hiByte jjkk, loByte jjkk]
  | .ldhxDir dd => [0x55#8, dd]
  | .sthxDir dd => [0x35#8, dd]
  | .movDirDir src dst => [0x4E#8, src, dst]
  | .movDirIxp src => [0x5E#8, src]
  | .movImmDir ii dst => [0x6E#8, ii, dst]
  | .movIxpDir dst => [0x7E#8, dst]
  | .psha => [0x87#8]
  | .pula => [0x86#8]
  | .pshh => [0x8B#8]
  | .pulh => [0x8A#8]
  | .pshx => [0x89#8]
  | .pulx => [0x88#8]
  | .bset0 dd => [0x10#8, dd]
  | .bset1 dd => [0x12#8, dd]
  | .bset2 dd => [0x14#8, dd]
  | .bset3 dd => [0x16#8, dd]
  | .bset4 dd => [0x18#8, dd]
  | .bset5 dd => [0x1A#8, dd]
  | .bset6 dd => [0x1C#8, dd]
  | .bset7 dd => [0x1E#8, dd]
  | .bclr0 dd => [0x11#8, dd]
  | .bclr1 dd => [0x13#8, dd]
  | .bclr2 dd => [0x15#8, dd]
  | .bclr3 dd => [0x17#8, dd]
  | .bclr4 dd => [0x19#8, dd]
  | .bclr5 dd => [0x1B#8, dd]
  | .bclr6 dd => [0x1D#8, dd]
  | .bclr7 dd => [0x1F#8, dd]
  | .addImm ii => [0xAB#8, ii]
  | .addDir dd => [0xBB#8, dd]
  | .addExt hhll => [0xCB#8, hiByte hhll, loByte hhll]
  | .addIx2 eeff => [0xDB#8, hiByte eeff, loByte eeff]
  | .addIx1 ff => [0xEB#8, ff]
  | .addIx => [0xFB#8]
  | .addSp2 eeff => [0x9E#8, 0xDB#8, hiByte eeff, loByte eeff]
  | .addSp1 ff => [0x9E#8, 0xEB#8, ff]
  | .subImm ii => [0xA0#8, ii]
  | .subDir dd => [0xB0#8, dd]
  | .subExt hhll => [0xC0#8, hiByte hhll, loByte hhll]
  | .subIx2 eeff => [0xD0#8, hiByte eeff, loByte eeff]
  | .subIx1 ff => [0xE0#8, ff]
  | .subIx => [0xF0#8]
  | .subSp2 eeff => [0x9E#8, 0xD0#8, hiByte eeff, loByte eeff]
  | .subSp1 ff => [0x9E#8, 0xE0#8, ff]
  | .adcImm ii => [0xA9#8, ii]
  | .adcDir dd => [0xB9#8, dd]
  | .adcExt hhll => [0xC9#8, hiByte hhll, loByte hhll]
  | .adcIx2 eeff => [0xD9#8, hiByte eeff, loByte eeff]
  | .adcIx1 ff => [0xE9#8, ff]
  | .adcIx => [0xF9#8]
  | .adcSp2 eeff => [0x9E#8, 0xD9#8, hiByte eeff, loByte eeff]
  | .adcSp1 ff => [0x9E#8, 0xE9#8, ff]
  | .sbcImm ii => [0xA2#8, ii]
  | .sbcDir dd => [0xB2#8, dd]
  | .sbcExt hhll => [0xC2#8, hiByte hhll, loByte hhll]
  | .sbcIx2 eeff => [0xD2#8, hiByte eeff, loByte eeff]
  | .sbcIx1 ff => [0xE2#8, ff]
  | .sbcIx => [0xF2#8]
  | .sbcSp2 eeff => [0x9E#8, 0xD2#8, hiByte eeff, loByte eeff]
  | .sbcSp1 ff => [0x9E#8, 0xE2#8, ff]
  | .daa => [0x72#8]
  | .mul => [0x42#8]
  | .div => [0x52#8]
  | .decDir dd => [0x3A#8, dd]
  | .deca => [0x4A#8]
  | .decx => [0x5A#8]
  | .decIx1 ff => [0x6A#8, ff]
  | .decIx => [0x7A#8]
  | .decSp1 ff => [0x9E#8, 0x6A#8, ff]
  | .incDir dd => [0x3C#8, dd]
  | .inca => [0x4C#8]
  | .incx => [0x5C#8]
  | .incIx1 ff => [0x6C#8, ff]
  | .incIx => [0x7C#8]
  | .incSp1 ff => [0x9E#8, 0x6C#8, ff]
  | .negDir dd => [0x30#8, dd]
  | .nega => [0x40#8]
  | .negx => [0x50#8]
  | .negIx1 ff => [0x60#8, ff]
  | .negIx => [0x70#8]
  | .negSp1 ff => [0x9E#8, 0x60#8, ff]
  | .ais ii => [0xA7#8, ii]
  | .aix ii => [0xAF#8, ii]
  | .asrDir dd => [0x37#8, dd]
  | .asra => [0x47#8]
  | .asrx => [0x57#8]
  | .asrIx1 ff => [0x67#8, ff]
  | .asrIx => [0x77#8]
  | .asrSp1 ff => [0x9E#8, 0x67#8, ff]
  | .lslDir dd => [0x38#8, dd]
  | .lsla => [0x48#8]
  | .lslx => [0x58#8]
  | .lslIx1 ff => [0x68#8, ff]
  | .lslIx => [0x78#8]
  | .lslSp1 ff => [0x9E#8, 0x68#8, ff]
  | .lsrDir dd => [0x34#8, dd]
  | .lsra => [0x44#8]
  | .lsrx => [0x54#8]
  | .lsrIx1 ff => [0x64#8, ff]
  | .lsrIx => [0x74#8]
  | .lsrSp1 ff => [0x9E#8, 0x64#8, ff]
  | .rolDir dd => [0x39#8, dd]
  | .rola => [0x49#8]
  | .rolx => [0x59#8]
  | .rolIx1 ff => [0x69#8, ff]
  | .rolIx => [0x79#8]
  | .rolSp1 ff => [0x9E#8, 0x69#8, ff]
  | .rorDir dd => [0x36#8, dd]
  | .rora => [0x46#8]
  | .rorx => [0x56#8]
  | .rorIx1 ff => [0x66#8, ff]
  | .rorIx => [0x76#8]
  | .rorSp1 ff => [0x9E#8, 0x66#8, ff]
  | .andImm ii => [0xA4#8, ii]
  | .andDir dd => [0xB4#8, dd]
  | .andExt hhll => [0xC4#8, hiByte hhll, loByte hhll]
  | .andIx2 eeff => [0xD4#8, hiByte eeff, loByte eeff]
  | .andIx1 ff => [0xE4#8, ff]
  | .andIx => [0xF4#8]
  | .andSp2 eeff => [0x9E#8, 0xD4#8, hiByte eeff, loByte eeff]
  | .andSp1 ff => [0x9E#8, 0xE4#8, ff]
  | .oraImm ii => [0xAA#8, ii]
  | .oraDir dd => [0xBA#8, dd]
  | .oraExt hhll => [0xCA#8, hiByte hhll, loByte hhll]
  | .oraIx2 eeff => [0xDA#8, hiByte eeff, loByte eeff]
  | .oraIx1 ff => [0xEA#8, ff]
  | .oraIx => [0xFA#8]
  | .oraSp2 eeff => [0x9E#8, 0xDA#8, hiByte eeff, loByte eeff]
  | .oraSp1 ff => [0x9E#8, 0xEA#8, ff]
  | .eorImm ii => [0xA8#8, ii]
  | .eorDir dd => [0xB8#8, dd]
  | .eorExt hhll => [0xC8#8, hiByte hhll, loByte hhll]
  | .eorIx2 eeff => [0xD8#8, hiByte eeff, loByte eeff]
  | .eorIx1 ff => [0xE8#8, ff]
  | .eorIx => [0xF8#8]
  | .eorSp2 eeff => [0x9E#8, 0xD8#8, hiByte eeff, loByte eeff]
  | .eorSp1 ff => [0x9E#8, 0xE8#8, ff]
  | .comDir dd => [0x33#8, dd]
  | .coma => [0x43#8]
  | .comx => [0x53#8]
  | .comIx1 ff => [0x63#8, ff]
  | .comIx => [0x73#8]
  | .comSp1 ff => [0x9E#8, 0x63#8, ff]
  | .cmpImm ii => [0xA1#8, ii]
  | .cmpDir dd => [0xB1#8, dd]
  | .cmpExt hhll => [0xC1#8, hiByte hhll, loByte hhll]
  | .cmpIx2 eeff => [0xD1#8, hiByte eeff, loByte eeff]
  | .cmpIx1 ff => [0xE1#8, ff]
  | .cmpIx => [0xF1#8]
  | .cmpSp2 eeff => [0x9E#8, 0xD1#8, hiByte eeff, loByte eeff]
  | .cmpSp1 ff => [0x9E#8, 0xE1#8, ff]
  | .cpxImm ii => [0xA3#8, ii]
  | .cpxDir dd => [0xB3#8, dd]
  | .cpxExt hhll => [0xC3#8, hiByte hhll, loByte hhll]
  | .cpxIx2 eeff => [0xD3#8, hiByte eeff, loByte eeff]
  | .cpxIx1 ff => [0xE3#8, ff]
  | .cpxIx => [0xF3#8]
  | .cpxSp2 eeff => [0x9E#8, 0xD3#8, hiByte eeff, loByte eeff]
  | .cpxSp1 ff => [0x9E#8, 0xE3#8, ff]
  | .cphxImm jjkk => [0x65#8, hiByte jjkk, loByte jjkk]
  | .cphxDir dd => [0x75#8, dd]
  | .bitImm ii => [0xA5#8, ii]
  | .bitDir dd => [0xB5#8, dd]
  | .bitExt hhll => [0xC5#8, hiByte hhll, loByte hhll]
  | .bitIx2 eeff => [0xD5#8, hiByte eeff, loByte eeff]
  | .bitIx1 ff => [0xE5#8, ff]
  | .bitIx => [0xF5#8]
  | .bitSp2 eeff => [0x9E#8, 0xD5#8, hiByte eeff, loByte eeff]
  | .bitSp1 ff => [0x9E#8, 0xE5#8, ff]
  | .tstDir dd => [0x3D#8, dd]
  | .tsta => [0x4D#8]
  | .tstx => [0x5D#8]
  | .tstIx1 ff => [0x6D#8, ff]
  | .tstIx => [0x7D#8]
  | .tstSp1 ff => [0x9E#8, 0x6D#8, ff]
  | .brclr0 dd rr => [0x01#8, dd, rr]
  | .brclr1 dd rr => [0x03#8, dd, rr]
  | .brclr2 dd rr => [0x05#8, dd, rr]
  | .brclr3 dd rr => [0x07#8, dd, rr]
  | .brclr4 dd rr => [0x09#8, dd, rr]
  | .brclr5 dd rr => [0x0B#8, dd, rr]
  | .brclr6 dd rr => [0x0D#8, dd, rr]
  | .brclr7 dd rr => [0x0F#8, dd, rr]
  | .brset0 dd rr => [0x00#8, dd, rr]
  | .brset1 dd rr => [0x02#8, dd, rr]
  | .brset2 dd rr => [0x04#8, dd, rr]
  | .brset3 dd rr => [0x06#8, dd, rr]
  | .brset4 dd rr => [0x08#8, dd, rr]
  | .brset5 dd rr => [0x0A#8, dd, rr]
  | .brset6 dd rr => [0x0C#8, dd, rr]
  | .brset7 dd rr => [0x0E#8, dd, rr]
  | .bra rr => [0x20#8, rr]
  | .brn rr => [0x21#8, rr]
  | .beq rr => [0x27#8, rr]
  | .bne rr => [0x26#8, rr]
  | .bsr rr => [0xAD#8, rr]
  | .bhi rr => [0x22#8, rr]
  | .bls rr => [0x23#8, rr]
  | .bpl rr => [0x2A#8, rr]
  | .bmi rr => [0x2B#8, rr]
  | .bcc rr => [0x24#8, rr]
  | .bcs rr => [0x25#8, rr]
  | .bhcc rr => [0x28#8, rr]
  | .bhcs rr => [0x29#8, rr]
  | .bmc rr => [0x2C#8, rr]
  | .bms rr => [0x2D#8, rr]
  | .bih rr => [0x2F#8, rr]
  | .bil rr => [0x2E#8, rr]
  | .bge rr => [0x90#8, rr]
  | .bgt rr => [0x92#8, rr]
  | .ble rr => [0x93#8, rr]
  | .blt rr => [0x91#8, rr]
  | .cbeqDir dd rr => [0x31#8, dd, rr]
  | .cbeqa ii rr => [0x41#8, ii, rr]
  | .cbeqx ii rr => [0x51#8, ii, rr]
  | .cbeqIx1p ff rr => [0x61#8, ff, rr]
  | .cbeqIxp rr => [0x71#8, rr]
  | .cbeqSp1 ff rr => [0x9E#8, 0x61#8, ff, rr]
  | .dbnzDir dd rr => [0x3B#8, dd, rr]
  | .dbnza rr => [0x4B#8, rr]
  | .dbnzx rr => [0x5B#8, rr]
  | .dbnzIx1 ff rr => [0x6B#8, ff, rr]
  | .dbnzIx rr => [0x7B#8, rr]
  | .dbnzSp1 ff rr => [0x9E#8, 0x6B#8, ff, rr]
  | .jmpDir dd => [0xBC#8, dd]
  | .jmpExt hhll => [0xCC#8, hiByte hhll, loByte hhll]
  | .jmpIx2 eeff => [0xDC#8, hiByte eeff, loByte eeff]
  | .jmpIx1 ff => [0xEC#8, ff]
  | .jmpIx => [0xFC#8]
  | .jsrDir dd => [0xBD#8, dd]
  | .jsrExt hhll => [0xCD#8, hiByte hhll, loByte hhll]
  | .jsrIx2 eeff => [0xDD#8, hiByte eeff, loByte eeff]
  | .jsrIx1 ff => [0xED#8, ff]
  | .jsrIx => [0xFD#8]
  | .rts => [0x81#8]
  | .sec => [0x99#8]
  | .clc => [0x98#8]
  | .cli => [0x9A#8]
  | .sei => [0x9B#8]
  | .swi => [0x83#8]
  | .rti => [0x80#8]
  | .rsp => [0x9C#8]
  | .nop => [0x9D#8]
  | .wait => [0x8F#8]
  | .stop => [0x8E#8]
  | .tap => [0x84#8]
  | .tpa => [0x85#8]
  | .txs => [0x94#8]
  | .tsx => [0x95#8]

/-- The four bytes that a table word stands for: the bits above `nbits` are 0, and the first byte is bits 7..0,
but for the two-byte opcodes, whose rows the table numbers with the prefix in bits 15..8 (R99; log 11). -/
def tableBytes (nbits w : Nat) : List Byte :=
  let v := w % 2 ^ nbits
  if nbits = 16 ∧ v / 256 = 0x9E then [0x9E#8, BitVec.ofNat 8 v, 0#8, 0#8]
  else [BitVec.ofNat 8 v, BitVec.ofNat 8 (v / 256), BitVec.ofNat 8 (v / 65536), BitVec.ofNat 8 (v / 16777216)]

/-- The instruction the decoder reads from a word of the opcode table. -/
def decodeTableWord (nbits w : Nat) : Option Instr :=
  match decode (tableBytes nbits w) with
  | .instr i _ => some i
  | .short => none
  | .illegal _ => none

end Sys2Proof
end

