-- ==== Sys2Proof/Machine/Fetch.lean ====
section
/-! DEFINITION. Fetching the bytes of an instruction (spec/30_encoding.md R83) through `MEMMAP`
(spec/20_memory.md R61), and placing the bytes of a table word where the fetch reads. -/

namespace Sys2Proof.Machine

/-- Fetches one instruction byte: an ordinary read of RAM or ROM (R67); an IO address is refused, an
unimplemented one faults (R61). -/
def fetchByte (a : Word) (s : State) : Except Stop Byte :=
  match s.kindAt a with
  | .ram => .ok (s.peek a)
  | .rom => .ok (s.peek a)
  | .io => .error (.refused (.fetchFromIo a))
  | .unimplemented => .error (.fault (.illegalAddress a))

/-- Fetches byte after byte, at most `fuel` of them, until the bytes are an instruction or no instruction can begin
with them (R83). Addresses wrap (spec/10_state.md R25). -/
def fetchFrom (fuel : Nat) (a : Word) (bytes : List Byte) (s : State) : Except Stop Decoded :=
  match fuel with
  | 0 => .ok .short
  | fuel' + 1 => do
    let b ← fetchByte a s
    match decode (bytes ++ [b]) with
    | .short => fetchFrom fuel' (a + 1) (bytes ++ [b]) s
    | .instr i len => .ok (.instr i len)
    | .illegal opcode => .ok (.illegal opcode)

/-- Fetches the instruction at PC: one to four bytes (R80). -/
def fetch (s : State) : Except Stop Decoded := fetchFrom 4 s.pc [] s

/-- The byte at each of the addresses from `a` on. -/
def State.bytesAt (s : State) (a : Word) (len : Nat) : List Byte :=
  match len with
  | 0 => []
  | n + 1 => s.peek a :: s.bytesAt (a + 1) n

/-- Every one of the `len` addresses from `a` on can be fetched from. -/
def State.fetchableRange (s : State) (a : Word) (len : Nat) : Bool :=
  match len with
  | 0 => true
  | n + 1 => decide (s.fetchable a) && s.fetchableRange (a + 1) n

/-- Places bytes at the addresses from `a` on, as a loader does. -/
def placeBytes (bytes : List Byte) (a : Word) (m : Memory) : Memory :=
  match bytes with
  | [] => m
  | b :: rest => placeBytes rest (a + 1) (m.write a.toNat b)

end Sys2Proof.Machine
end

