-- ==== Sys2Proof/Machine/Boundary.lean ====
section
/-! DEFINITION. An instruction boundary: what the environment does there (spec/60_exceptions.md R333), which move
follows (R316, R317, R330, R331), and running the instruction at PC (R312; spec/30_encoding.md R83). -/

namespace Sys2Proof.Machine

/-- What a step does at a boundary (spec/00_scope.md R14). -/
inductive Move
  | reset
  | interrupt (src : IntSource) (vector : Word)
  | idle
  | execute
deriving DecidableEq, Repr

/-- The environment's input at this boundary: the level of the IRQ pin, requests raised and withdrawn (R333 (b);
the pin and the requests are independent, D24). An empty queue is an environment that does nothing (log 15). The
first component says whether RESET is asserted (R333 (a)). -/
def takeInput (s : State) : Bool × State :=
  match s.inputs with
  | [] => (false, s)
  | e :: rest =>
    (e.reset,
      { s with
        irqPin := e.irqPin
        pending := (e.raised ∪ s.pending).filter (fun p => !(e.withdrawn.contains p))
        inputs := rest })

/-- The pending source of the highest priority, with its vector (R319). -/
def highest (s : State) : Option (IntSource × Word) :=
  s.params.sources.find? (fun p => s.pending.contains p.1)

/-- The IRQ pin's request with its vector: the only one that ends STOPPED (R331). -/
def pendingIrq (s : State) : Option (IntSource × Word) :=
  s.params.sources.find? (fun p => p.1 == .irq && s.pending.contains .irq)

/-- The environment has a choice at this boundary: the late window is open, and something is pending that I masks
(R317). -/
def State.windowOpen (s : State) : Bool :=
  s.run == .running && s.seiWindow && s.ccr.i && (highest s).isSome

/-- Which move follows where RESET is not asserted (R316, R330, R331). In the late window a draw decides
(log 14). -/
def chooseMove (s : State) : Move :=
  match s.run with
  | .running =>
    match highest s with
    | none => .execute
    | some p => if !s.ccr.i || (s.seiWindow && Config.anyBit s.draws) then .interrupt p.1 p.2 else .execute
  | .waiting =>
    match highest s with
    | none => .idle
    | some p => if s.ccr.i then .idle else .interrupt p.1 p.2
  | .stopped =>
    match pendingIrq s with
    | none => .idle
    | some p => if s.ccr.i then .idle else .interrupt p.1 p.2

/-- The late window is over after one boundary; where it was open, a draw was used. -/
def State.closeWindow (s : State) : State :=
  { s with seiWindow := false, draws := if s.windowOpen then s.draws + 1 else s.draws }

/-- The move at a boundary, and the state it starts from. -/
def boundary (s : State) : Move × State :=
  let (reset, s1) := takeInput s
  if reset then (.reset, { s1 with seiWindow := false }) else (chooseMove s1, s1.closeWindow)

/-- Runs the instruction at PC. An opcode assigned to no instruction faults and reports the byte or bytes, or resets
where the launch says so (R312, log 12). Four bytes are never too short (`Laws.fetch_not_short`). -/
def executeNext (s : State) : Host.Outcome State Fault Refusal :=
  match fetch s with
  | .error e => finish (.error e)
  | .ok (.instr i _) => exec i s
  | .ok .short => .fault (.illegalOpcode s.pc [])
  | .ok (.illegal opcode) =>
    if s.params.illegalOpcodeResets then finish (resetMachine s) else .fault (.illegalOpcode s.pc opcode)

/-- Carries a move out. -/
def perform (m : Move) (s : State) : Host.Outcome State Fault Refusal :=
  match m with
  | .reset => finish (resetMachine s)
  | .interrupt src vector => finish (takeInterrupt src vector s)
  | .idle => .next s
  | .execute => executeNext s

/-- The launch's parameters with every address RAM, for a loader that must place bytes where no fetch could read
them. -/
def allRam (p : Params) : Params := { p with regions := [] }

end Sys2Proof.Machine
end

