-- ==== Sys2Proof/Machine/Step.lean ====
section
/-! DEFINITION. The step of the machine, and the state whose next step runs a given word. -/

namespace Sys2Proof.Machine

/-- One step (spec/00_scope.md R14): the environment acts, then the move that the boundary calls for is made. -/
def step (s : State) : Host.Outcome State Fault Refusal :=
  perform (boundary s).1 (boundary s).2

/-- `s` with the instruction of a table word loaded at PC, running, and with a silent environment and nothing pending,
so that the next step fetches and runs it (log 10, 11). Where the fetch could not read there, every address becomes
RAM. -/
def State.withFetchWord (s : State) (nbits w : Nat) : State :=
  { s with
    mem := placeBytes (tableBytes nbits w) s.pc s.mem
    params := if s.fetchableRange s.pc 4 then s.params else allRam s.params
    run := .running
    pending := []
    inputs := [] }

end Sys2Proof.Machine
end

