-- ==== Sys2Proof/Machine/Timing.lean ====
section
/-! DEFINITION. The column "HC08 Cycles" (spec/70_reset_and_hazards.md R362). It carries no semantics: no
operation of the machine reads it (log 22). -/

namespace Sys2Proof

/-- The bus cycles an instruction takes, by the tables of its rule; `JMP ,X` as printed (C7). -/
def Instr.cycles (i : Instr) : Nat :=
  match i with
  | .clrDir _ => 3
  | .clra => 1
  | .clrx => 1
  | .clrh => 1
  | .clrIx1 _ => 3
  | .clrIx => 2
  | .clrSp1 _ => 4
  | .ldaImm _ => 2
  | .ldaDir _ => 3
  | .ldaExt _ => 4
  | .ldaIx2 _ => 4
  | .ldaIx1 _ => 3
  | .ldaIx => 2
  | .ldaSp2 _ => 5
  | .ldaSp1 _ => 4
  | .staDir _ => 3
  | .staExt _ => 4
  | .staIx2 _ => 4
  | .staIx1 _ => 3
  | .staIx => 2
  | .staSp2 _ => 5
  | .staSp1 _ => 4
  | .ldxImm _ => 2
  | .ldxDir _ => 3
  | .ldxExt _ => 4
  | .ldxIx2 _ => 4
  | .ldxIx1 _ => 3
  | .ldxIx => 2
  | .ldxSp2 _ => 5
  | .ldxSp1 _ => 4
  | .stxDir _ => 3
  | .stxExt _ => 4
  | .stxIx2 _ => 4
  | .stxIx1 _ => 3
  | .stxIx => 2
  | .stxSp2 _ => 5
  | .stxSp1 _ => 4
  | .nsa => 3
  | .tax => 1
  | .txa => 1
  | .ldhxImm _ => 3
  | .ldhxDir _ => 4
  | .sthxDir _ => 4
  | .movDirDir _ _ => 5
  | .movDirIxp _ => 4
  | .movImmDir _ _ => 4
  | .movIxpDir _ => 4
  | .psha => 2
  | .pula => 2
  | .pshh => 2
  | .pulh => 2
  | .pshx => 2
  | .pulx => 2
  | .bset0 _ => 4
  | .bset1 _ => 4
  | .bset2 _ => 4
  | .bset3 _ => 4
  | .bset4 _ => 4
  | .bset5 _ => 4
  | .bset6 _ => 4
  | .bset7 _ => 4
  | .bclr0 _ => 4
  | .bclr1 _ => 4
  | .bclr2 _ => 4
  | .bclr3 _ => 4
  | .bclr4 _ => 4
  | .bclr5 _ => 4
  | .bclr6 _ => 4
  | .bclr7 _ => 4
  | .addImm _ => 2
  | .addDir _ => 3
  | .addExt _ => 4
  | .addIx2 _ => 4
  | .addIx1 _ => 3
  | .addIx => 2
  | .addSp2 _ => 5
  | .addSp1 _ => 4
  | .subImm _ => 2
  | .subDir _ => 3
  | .subExt _ => 4
  | .subIx2 _ => 4
  | .subIx1 _ => 3
  | .subIx => 2
  | .subSp2 _ => 5
  | .subSp1 _ => 4
  | .adcImm _ => 2
  | .adcDir _ => 3
  | .adcExt _ => 4
  | .adcIx2 _ => 4
  | .adcIx1 _ => 3
  | .adcIx => 2
  | .adcSp2 _ => 5
  | .adcSp1 _ => 4
  | .sbcImm _ => 2
  | .sbcDir _ => 3
  | .sbcExt _ => 4
  | .sbcIx2 _ => 4
  | .sbcIx1 _ => 3
  | .sbcIx => 2
  | .sbcSp2 _ => 5
  | .sbcSp1 _ => 4
  | .daa => 2
  | .mul => 5
  | .div => 7
  | .decDir _ => 4
  | .deca => 1
  | .decx => 1
  | .decIx1 _ => 4
  | .decIx => 3
  | .decSp1 _ => 5
  | .incDir _ => 4
  | .inca => 1
  | .incx => 1
  | .incIx1 _ => 4
  | .incIx => 3
  | .incSp1 _ => 5
  | .negDir _ => 4
  | .nega => 1
  | .negx => 1
  | .negIx1 _ => 4
  | .negIx => 3
  | .negSp1 _ => 5
  | .ais _ => 2
  | .aix _ => 2
  | .asrDir _ => 4
  | .asra => 1
  | .asrx => 1
  | .asrIx1 _ => 4
  | .asrIx => 3
  | .asrSp1 _ => 5
  | .lslDir _ => 4
  | .lsla => 1
  | .lslx => 1
  | .lslIx1 _ => 4
  | .lslIx => 3
  | .lslSp1 _ => 5
  | .lsrDir _ => 4
  | .lsra => 1
  | .lsrx => 1
  | .lsrIx1 _ => 4
  | .lsrIx => 3
  | .lsrSp1 _ => 5
  | .rolDir _ => 4
  | .rola => 1
  | .rolx => 1
  | .rolIx1 _ => 4
  | .rolIx => 3
  | .rolSp1 _ => 5
  | .rorDir _ => 4
  | .rora => 1
  | .rorx => 1
  | .rorIx1 _ => 4
  | .rorIx => 3
  | .rorSp1 _ => 5
  | .andImm _ => 2
  | .andDir _ => 3
  | .andExt _ => 4
  | .andIx2 _ => 4
  | .andIx1 _ => 3
  | .andIx => 2
  | .andSp2 _ => 5
  | .andSp1 _ => 4
  | .oraImm _ => 2
  | .oraDir _ => 3
  | .oraExt _ => 4
  | .oraIx2 _ => 4
  | .oraIx1 _ => 3
  | .oraIx => 2
  | .oraSp2 _ => 5
  | .oraSp1 _ => 4
  | .eorImm _ => 2
  | .eorDir _ => 3
  | .eorExt _ => 4
  | .eorIx2 _ => 4
  | .eorIx1 _ => 3
  | .eorIx => 2
  | .eorSp2 _ => 5
  | .eorSp1 _ => 4
  | .comDir _ => 4
  | .coma => 1
  | .comx => 1
  | .comIx1 _ => 4
  | .comIx => 3
  | .comSp1 _ => 5
  | .cmpImm _ => 2
  | .cmpDir _ => 3
  | .cmpExt _ => 4
  | .cmpIx2 _ => 4
  | .cmpIx1 _ => 3
  | .cmpIx => 2
  | .cmpSp2 _ => 5
  | .cmpSp1 _ => 4
  | .cpxImm _ => 2
  | .cpxDir _ => 3
  | .cpxExt _ => 4
  | .cpxIx2 _ => 4
  | .cpxIx1 _ => 3
  | .cpxIx => 2
  | .cpxSp2 _ => 5
  | .cpxSp1 _ => 4
  | .cphxImm _ => 3
  | .cphxDir _ => 4
  | .bitImm _ => 2
  | .bitDir _ => 3
  | .bitExt _ => 4
  | .bitIx2 _ => 4
  | .bitIx1 _ => 3
  | .bitIx => 2
  | .bitSp2 _ => 5
  | .bitSp1 _ => 4
  | .tstDir _ => 3
  | .tsta => 1
  | .tstx => 1
  | .tstIx1 _ => 3
  | .tstIx => 2
  | .tstSp1 _ => 4
  | .brclr0 _ _ => 5
  | .brclr1 _ _ => 5
  | .brclr2 _ _ => 5
  | .brclr3 _ _ => 5
  | .brclr4 _ _ => 5
  | .brclr5 _ _ => 5
  | .brclr6 _ _ => 5
  | .brclr7 _ _ => 5
  | .brset0 _ _ => 5
  | .brset1 _ _ => 5
  | .brset2 _ _ => 5
  | .brset3 _ _ => 5
  | .brset4 _ _ => 5
  | .brset5 _ _ => 5
  | .brset6 _ _ => 5
  | .brset7 _ _ => 5
  | .bra _ => 3
  | .brn _ => 3
  | .beq _ => 3
  | .bne _ => 3
  | .bsr _ => 4
  | .bhi _ => 3
  | .bls _ => 3
  | .bpl _ => 3
  | .bmi _ => 3
  | .bcc _ => 3
  | .bcs _ => 3
  | .bhcc _ => 3
  | .bhcs _ => 3
  | .bmc _ => 3
  | .bms _ => 3
  | .bih _ => 3
  | .bil _ => 3
  | .bge _ => 3
  | .bgt _ => 3
  | .ble _ => 3
  | .blt _ => 3
  | .cbeqDir _ _ => 5
  | .cbeqa _ _ => 4
  | .cbeqx _ _ => 4
  | .cbeqIx1p _ _ => 5
  | .cbeqIxp _ => 4
  | .cbeqSp1 _ _ => 6
  | .dbnzDir _ _ => 5
  | .dbnza _ => 3
  | .dbnzx _ => 3
  | .dbnzIx1 _ _ => 5
  | .dbnzIx _ => 4
  | .dbnzSp1 _ _ => 6
  | .jmpDir _ => 2
  | .jmpExt _ => 3
  | .jmpIx2 _ => 4
  | .jmpIx1 _ => 3
  | .jmpIx => 3
  | .jsrDir _ => 4
  | .jsrExt _ => 5
  | .jsrIx2 _ => 6
  | .jsrIx1 _ => 5
  | .jsrIx => 4
  | .rts => 4
  | .sec => 1
  | .clc => 1
  | .cli => 2
  | .sei => 2
  | .swi => 9
  | .rti => 7
  | .rsp => 1
  | .nop => 1
  | .wait => 1
  | .stop => 1
  | .tap => 2
  | .tpa => 1
  | .txs => 2
  | .tsx => 2

end Sys2Proof
end

