-- ==== Sys2Proof/Safety.lean ====
section
/-! DEFINITION. The terms in which statements speak of the machine: the data accesses of every instruction
(spec/20_memory.md R54, R66), the flags and registers it may change (spec/10_state.md R21 to R33), the encodings of the
families (spec/30_encoding.md R101), and the invariant that every step keeps. No operation of the machine uses this
file. -/

namespace Sys2Proof.Machine

/-! ### Data accesses (R54) -/

/-- One access to a byte of memory. -/
inductive Access
  | read (addr : Word)
  | write (addr : Word)
deriving DecidableEq, Repr

/-- `MEMMAP` lets the access complete (R58 to R60). -/
def Access.allowed (s : State) (x : Access) : Bool :=
  match x with
  | .read a => decide (s.readable a)
  | .write a => decide (s.writable a)

/-- The fault that an access ends in where it is not allowed (R59). -/
def Access.faultOf (s : State) (x : Access) : Fault :=
  match x with
  | .read a => .illegalAddress a
  | .write a => if s.kindAt a = .rom then .writeToRom a else .illegalAddress a

/-- The access goes to an IO address. -/
def Access.toIo (s : State) (x : Access) : Bool :=
  match x with
  | .read a => s.kindAt a == .io
  | .write a => s.kindAt a == .io

/-- The access that a record of the IO trace is one of. -/
def IoAccess.access (x : IoAccess) : Access :=
  match x with
  | .read a _ => .read a
  | .write a _ => .write a

/-- The data accesses of an instruction in their order (R54, R66): instruction bytes are not counted. -/
def accesses (i : Instr) (s : State) : List Access :=
  match i with
  | .clrDir dd => [.write (eaOf (.dir dd) s)]
  | .clra => []
  | .clrx => []
  | .clrh => []
  | .clrIx1 ff => [.write (eaOf (.ix1 ff) s)]
  | .clrIx => [.write (eaOf .ix s)]
  | .clrSp1 ff => [.write (eaOf (.sp1 ff) s)]
  | .ldaImm _ => []
  | .ldaDir dd => [.read (eaOf (.dir dd) s)]
  | .ldaExt hhll => [.read (eaOf (.ext hhll) s)]
  | .ldaIx2 eeff => [.read (eaOf (.ix2 eeff) s)]
  | .ldaIx1 ff => [.read (eaOf (.ix1 ff) s)]
  | .ldaIx => [.read (eaOf .ix s)]
  | .ldaSp2 eeff => [.read (eaOf (.sp2 eeff) s)]
  | .ldaSp1 ff => [.read (eaOf (.sp1 ff) s)]
  | .staDir dd => [.write (eaOf (.dir dd) s)]
  | .staExt hhll => [.write (eaOf (.ext hhll) s)]
  | .staIx2 eeff => [.write (eaOf (.ix2 eeff) s)]
  | .staIx1 ff => [.write (eaOf (.ix1 ff) s)]
  | .staIx => [.write (eaOf .ix s)]
  | .staSp2 eeff => [.write (eaOf (.sp2 eeff) s)]
  | .staSp1 ff => [.write (eaOf (.sp1 ff) s)]
  | .ldxImm _ => []
  | .ldxDir dd => [.read (eaOf (.dir dd) s)]
  | .ldxExt hhll => [.read (eaOf (.ext hhll) s)]
  | .ldxIx2 eeff => [.read (eaOf (.ix2 eeff) s)]
  | .ldxIx1 ff => [.read (eaOf (.ix1 ff) s)]
  | .ldxIx => [.read (eaOf .ix s)]
  | .ldxSp2 eeff => [.read (eaOf (.sp2 eeff) s)]
  | .ldxSp1 ff => [.read (eaOf (.sp1 ff) s)]
  | .stxDir dd => [.write (eaOf (.dir dd) s)]
  | .stxExt hhll => [.write (eaOf (.ext hhll) s)]
  | .stxIx2 eeff => [.write (eaOf (.ix2 eeff) s)]
  | .stxIx1 ff => [.write (eaOf (.ix1 ff) s)]
  | .stxIx => [.write (eaOf .ix s)]
  | .stxSp2 eeff => [.write (eaOf (.sp2 eeff) s)]
  | .stxSp1 ff => [.write (eaOf (.sp1 ff) s)]
  | .nsa => []
  | .tax => []
  | .txa => []
  | .ldhxImm _ => []
  | .ldhxDir dd => [.read (zext16 dd), .read (zext16 dd + 1)]
  | .sthxDir dd => [.write (zext16 dd), .write (zext16 dd + 1)]
  | .movDirDir src dst => [.read (zext16 src), .write (zext16 dst)]
  | .movDirIxp src => [.read (zext16 src), .write s.hx]
  | .movImmDir _ dst => [.write (zext16 dst)]
  | .movIxpDir dst => [.read s.hx, .write (zext16 dst)]
  | .psha => [.write s.sp]
  | .pula => [.read (s.sp + 1)]
  | .pshh => [.write s.sp]
  | .pulh => [.read (s.sp + 1)]
  | .pshx => [.write s.sp]
  | .pulx => [.read (s.sp + 1)]
  | .bset0 dd => [.read (eaOf (.dir dd) s), .write (eaOf (.dir dd) s)]
  | .bset1 dd => [.read (eaOf (.dir dd) s), .write (eaOf (.dir dd) s)]
  | .bset2 dd => [.read (eaOf (.dir dd) s), .write (eaOf (.dir dd) s)]
  | .bset3 dd => [.read (eaOf (.dir dd) s), .write (eaOf (.dir dd) s)]
  | .bset4 dd => [.read (eaOf (.dir dd) s), .write (eaOf (.dir dd) s)]
  | .bset5 dd => [.read (eaOf (.dir dd) s), .write (eaOf (.dir dd) s)]
  | .bset6 dd => [.read (eaOf (.dir dd) s), .write (eaOf (.dir dd) s)]
  | .bset7 dd => [.read (eaOf (.dir dd) s), .write (eaOf (.dir dd) s)]
  | .bclr0 dd => [.read (eaOf (.dir dd) s), .write (eaOf (.dir dd) s)]
  | .bclr1 dd => [.read (eaOf (.dir dd) s), .write (eaOf (.dir dd) s)]
  | .bclr2 dd => [.read (eaOf (.dir dd) s), .write (eaOf (.dir dd) s)]
  | .bclr3 dd => [.read (eaOf (.dir dd) s), .write (eaOf (.dir dd) s)]
  | .bclr4 dd => [.read (eaOf (.dir dd) s), .write (eaOf (.dir dd) s)]
  | .bclr5 dd => [.read (eaOf (.dir dd) s), .write (eaOf (.dir dd) s)]
  | .bclr6 dd => [.read (eaOf (.dir dd) s), .write (eaOf (.dir dd) s)]
  | .bclr7 dd => [.read (eaOf (.dir dd) s), .write (eaOf (.dir dd) s)]
  | .addImm _ => []
  | .addDir dd => [.read (eaOf (.dir dd) s)]
  | .addExt hhll => [.read (eaOf (.ext hhll) s)]
  | .addIx2 eeff => [.read (eaOf (.ix2 eeff) s)]
  | .addIx1 ff => [.read (eaOf (.ix1 ff) s)]
  | .addIx => [.read (eaOf .ix s)]
  | .addSp2 eeff => [.read (eaOf (.sp2 eeff) s)]
  | .addSp1 ff => [.read (eaOf (.sp1 ff) s)]
  | .subImm _ => []
  | .subDir dd => [.read (eaOf (.dir dd) s)]
  | .subExt hhll => [.read (eaOf (.ext hhll) s)]
  | .subIx2 eeff => [.read (eaOf (.ix2 eeff) s)]
  | .subIx1 ff => [.read (eaOf (.ix1 ff) s)]
  | .subIx => [.read (eaOf .ix s)]
  | .subSp2 eeff => [.read (eaOf (.sp2 eeff) s)]
  | .subSp1 ff => [.read (eaOf (.sp1 ff) s)]
  | .adcImm _ => []
  | .adcDir dd => [.read (eaOf (.dir dd) s)]
  | .adcExt hhll => [.read (eaOf (.ext hhll) s)]
  | .adcIx2 eeff => [.read (eaOf (.ix2 eeff) s)]
  | .adcIx1 ff => [.read (eaOf (.ix1 ff) s)]
  | .adcIx => [.read (eaOf .ix s)]
  | .adcSp2 eeff => [.read (eaOf (.sp2 eeff) s)]
  | .adcSp1 ff => [.read (eaOf (.sp1 ff) s)]
  | .sbcImm _ => []
  | .sbcDir dd => [.read (eaOf (.dir dd) s)]
  | .sbcExt hhll => [.read (eaOf (.ext hhll) s)]
  | .sbcIx2 eeff => [.read (eaOf (.ix2 eeff) s)]
  | .sbcIx1 ff => [.read (eaOf (.ix1 ff) s)]
  | .sbcIx => [.read (eaOf .ix s)]
  | .sbcSp2 eeff => [.read (eaOf (.sp2 eeff) s)]
  | .sbcSp1 ff => [.read (eaOf (.sp1 ff) s)]
  | .daa => []
  | .mul => []
  | .div => []
  | .decDir dd => [.read (eaOf (.dir dd) s), .write (eaOf (.dir dd) s)]
  | .deca => []
  | .decx => []
  | .decIx1 ff => [.read (eaOf (.ix1 ff) s), .write (eaOf (.ix1 ff) s)]
  | .decIx => [.read (eaOf .ix s), .write (eaOf .ix s)]
  | .decSp1 ff => [.read (eaOf (.sp1 ff) s), .write (eaOf (.sp1 ff) s)]
  | .incDir dd => [.read (eaOf (.dir dd) s), .write (eaOf (.dir dd) s)]
  | .inca => []
  | .incx => []
  | .incIx1 ff => [.read (eaOf (.ix1 ff) s), .write (eaOf (.ix1 ff) s)]
  | .incIx => [.read (eaOf .ix s), .write (eaOf .ix s)]
  | .incSp1 ff => [.read (eaOf (.sp1 ff) s), .write (eaOf (.sp1 ff) s)]
  | .negDir dd => [.read (eaOf (.dir dd) s), .write (eaOf (.dir dd) s)]
  | .nega => []
  | .negx => []
  | .negIx1 ff => [.read (eaOf (.ix1 ff) s), .write (eaOf (.ix1 ff) s)]
  | .negIx => [.read (eaOf .ix s), .write (eaOf .ix s)]
  | .negSp1 ff => [.read (eaOf (.sp1 ff) s), .write (eaOf (.sp1 ff) s)]
  | .ais _ => []
  | .aix _ => []
  | .asrDir dd => [.read (eaOf (.dir dd) s), .write (eaOf (.dir dd) s)]
  | .asra => []
  | .asrx => []
  | .asrIx1 ff => [.read (eaOf (.ix1 ff) s), .write (eaOf (.ix1 ff) s)]
  | .asrIx => [.read (eaOf .ix s), .write (eaOf .ix s)]
  | .asrSp1 ff => [.read (eaOf (.sp1 ff) s), .write (eaOf (.sp1 ff) s)]
  | .lslDir dd => [.read (eaOf (.dir dd) s), .write (eaOf (.dir dd) s)]
  | .lsla => []
  | .lslx => []
  | .lslIx1 ff => [.read (eaOf (.ix1 ff) s), .write (eaOf (.ix1 ff) s)]
  | .lslIx => [.read (eaOf .ix s), .write (eaOf .ix s)]
  | .lslSp1 ff => [.read (eaOf (.sp1 ff) s), .write (eaOf (.sp1 ff) s)]
  | .lsrDir dd => [.read (eaOf (.dir dd) s), .write (eaOf (.dir dd) s)]
  | .lsra => []
  | .lsrx => []
  | .lsrIx1 ff => [.read (eaOf (.ix1 ff) s), .write (eaOf (.ix1 ff) s)]
  | .lsrIx => [.read (eaOf .ix s), .write (eaOf .ix s)]
  | .lsrSp1 ff => [.read (eaOf (.sp1 ff) s), .write (eaOf (.sp1 ff) s)]
  | .rolDir dd => [.read (eaOf (.dir dd) s), .write (eaOf (.dir dd) s)]
  | .rola => []
  | .rolx => []
  | .rolIx1 ff => [.read (eaOf (.ix1 ff) s), .write (eaOf (.ix1 ff) s)]
  | .rolIx => [.read (eaOf .ix s), .write (eaOf .ix s)]
  | .rolSp1 ff => [.read (eaOf (.sp1 ff) s), .write (eaOf (.sp1 ff) s)]
  | .rorDir dd => [.read (eaOf (.dir dd) s), .write (eaOf (.dir dd) s)]
  | .rora => []
  | .rorx => []
  | .rorIx1 ff => [.read (eaOf (.ix1 ff) s), .write (eaOf (.ix1 ff) s)]
  | .rorIx => [.read (eaOf .ix s), .write (eaOf .ix s)]
  | .rorSp1 ff => [.read (eaOf (.sp1 ff) s), .write (eaOf (.sp1 ff) s)]
  | .andImm _ => []
  | .andDir dd => [.read (eaOf (.dir dd) s)]
  | .andExt hhll => [.read (eaOf (.ext hhll) s)]
  | .andIx2 eeff => [.read (eaOf (.ix2 eeff) s)]
  | .andIx1 ff => [.read (eaOf (.ix1 ff) s)]
  | .andIx => [.read (eaOf .ix s)]
  | .andSp2 eeff => [.read (eaOf (.sp2 eeff) s)]
  | .andSp1 ff => [.read (eaOf (.sp1 ff) s)]
  | .oraImm _ => []
  | .oraDir dd => [.read (eaOf (.dir dd) s)]
  | .oraExt hhll => [.read (eaOf (.ext hhll) s)]
  | .oraIx2 eeff => [.read (eaOf (.ix2 eeff) s)]
  | .oraIx1 ff => [.read (eaOf (.ix1 ff) s)]
  | .oraIx => [.read (eaOf .ix s)]
  | .oraSp2 eeff => [.read (eaOf (.sp2 eeff) s)]
  | .oraSp1 ff => [.read (eaOf (.sp1 ff) s)]
  | .eorImm _ => []
  | .eorDir dd => [.read (eaOf (.dir dd) s)]
  | .eorExt hhll => [.read (eaOf (.ext hhll) s)]
  | .eorIx2 eeff => [.read (eaOf (.ix2 eeff) s)]
  | .eorIx1 ff => [.read (eaOf (.ix1 ff) s)]
  | .eorIx => [.read (eaOf .ix s)]
  | .eorSp2 eeff => [.read (eaOf (.sp2 eeff) s)]
  | .eorSp1 ff => [.read (eaOf (.sp1 ff) s)]
  | .comDir dd => [.read (eaOf (.dir dd) s), .write (eaOf (.dir dd) s)]
  | .coma => []
  | .comx => []
  | .comIx1 ff => [.read (eaOf (.ix1 ff) s), .write (eaOf (.ix1 ff) s)]
  | .comIx => [.read (eaOf .ix s), .write (eaOf .ix s)]
  | .comSp1 ff => [.read (eaOf (.sp1 ff) s), .write (eaOf (.sp1 ff) s)]
  | .cmpImm _ => []
  | .cmpDir dd => [.read (eaOf (.dir dd) s)]
  | .cmpExt hhll => [.read (eaOf (.ext hhll) s)]
  | .cmpIx2 eeff => [.read (eaOf (.ix2 eeff) s)]
  | .cmpIx1 ff => [.read (eaOf (.ix1 ff) s)]
  | .cmpIx => [.read (eaOf .ix s)]
  | .cmpSp2 eeff => [.read (eaOf (.sp2 eeff) s)]
  | .cmpSp1 ff => [.read (eaOf (.sp1 ff) s)]
  | .cpxImm _ => []
  | .cpxDir dd => [.read (eaOf (.dir dd) s)]
  | .cpxExt hhll => [.read (eaOf (.ext hhll) s)]
  | .cpxIx2 eeff => [.read (eaOf (.ix2 eeff) s)]
  | .cpxIx1 ff => [.read (eaOf (.ix1 ff) s)]
  | .cpxIx => [.read (eaOf .ix s)]
  | .cpxSp2 eeff => [.read (eaOf (.sp2 eeff) s)]
  | .cpxSp1 ff => [.read (eaOf (.sp1 ff) s)]
  | .cphxImm _ => []
  | .cphxDir dd => [.read (zext16 dd), .read (zext16 dd + 1)]
  | .bitImm _ => []
  | .bitDir dd => [.read (eaOf (.dir dd) s)]
  | .bitExt hhll => [.read (eaOf (.ext hhll) s)]
  | .bitIx2 eeff => [.read (eaOf (.ix2 eeff) s)]
  | .bitIx1 ff => [.read (eaOf (.ix1 ff) s)]
  | .bitIx => [.read (eaOf .ix s)]
  | .bitSp2 eeff => [.read (eaOf (.sp2 eeff) s)]
  | .bitSp1 ff => [.read (eaOf (.sp1 ff) s)]
  | .tstDir dd => [.read (eaOf (.dir dd) s)]
  | .tsta => []
  | .tstx => []
  | .tstIx1 ff => [.read (eaOf (.ix1 ff) s)]
  | .tstIx => [.read (eaOf .ix s)]
  | .tstSp1 ff => [.read (eaOf (.sp1 ff) s)]
  | .brclr0 dd _ => [.read (eaOf (.dir dd) s)]
  | .brclr1 dd _ => [.read (eaOf (.dir dd) s)]
  | .brclr2 dd _ => [.read (eaOf (.dir dd) s)]
  | .brclr3 dd _ => [.read (eaOf (.dir dd) s)]
  | .brclr4 dd _ => [.read (eaOf (.dir dd) s)]
  | .brclr5 dd _ => [.read (eaOf (.dir dd) s)]
  | .brclr6 dd _ => [.read (eaOf (.dir dd) s)]
  | .brclr7 dd _ => [.read (eaOf (.dir dd) s)]
  | .brset0 dd _ => [.read (eaOf (.dir dd) s)]
  | .brset1 dd _ => [.read (eaOf (.dir dd) s)]
  | .brset2 dd _ => [.read (eaOf (.dir dd) s)]
  | .brset3 dd _ => [.read (eaOf (.dir dd) s)]
  | .brset4 dd _ => [.read (eaOf (.dir dd) s)]
  | .brset5 dd _ => [.read (eaOf (.dir dd) s)]
  | .brset6 dd _ => [.read (eaOf (.dir dd) s)]
  | .brset7 dd _ => [.read (eaOf (.dir dd) s)]
  | .bra _ => []
  | .brn _ => []
  | .beq _ => []
  | .bne _ => []
  | .bsr _ => [.write s.sp, .write (s.sp - 1)]
  | .bhi _ => []
  | .bls _ => []
  | .bpl _ => []
  | .bmi _ => []
  | .bcc _ => []
  | .bcs _ => []
  | .bhcc _ => []
  | .bhcs _ => []
  | .bmc _ => []
  | .bms _ => []
  | .bih _ => []
  | .bil _ => []
  | .bge _ => []
  | .bgt _ => []
  | .ble _ => []
  | .blt _ => []
  | .cbeqDir dd _ => [.read (eaOf (.dir dd) s)]
  | .cbeqa _ _ => []
  | .cbeqx _ _ => []
  | .cbeqIx1p ff _ => [.read (eaOf (.ix1 ff) s)]
  | .cbeqIxp _ => [.read (eaOf .ix s)]
  | .cbeqSp1 ff _ => [.read (eaOf (.sp1 ff) s)]
  | .dbnzDir dd _ => [.read (eaOf (.dir dd) s), .write (eaOf (.dir dd) s)]
  | .dbnza _ => []
  | .dbnzx _ => []
  | .dbnzIx1 ff _ => [.read (eaOf (.ix1 ff) s), .write (eaOf (.ix1 ff) s)]
  | .dbnzIx _ => [.read (eaOf .ix s), .write (eaOf .ix s)]
  | .dbnzSp1 ff _ => [.read (eaOf (.sp1 ff) s), .write (eaOf (.sp1 ff) s)]
  | .jmpDir _ => []
  | .jmpExt _ => []
  | .jmpIx2 _ => []
  | .jmpIx1 _ => []
  | .jmpIx => []
  | .jsrDir _ => [.write s.sp, .write (s.sp - 1)]
  | .jsrExt _ => [.write s.sp, .write (s.sp - 1)]
  | .jsrIx2 _ => [.write s.sp, .write (s.sp - 1)]
  | .jsrIx1 _ => [.write s.sp, .write (s.sp - 1)]
  | .jsrIx => [.write s.sp, .write (s.sp - 1)]
  | .rts => [.read (s.sp + 1), .read (s.sp + 2)]
  | .sec => []
  | .clc => []
  | .cli => []
  | .sei => []
  | .swi => [.write s.sp, .write (s.sp - 1), .write (s.sp - 2), .write (s.sp - 3), .write (s.sp - 4),
      .read Config.swiVector, .read (Config.swiVector + 1)]
  | .rti => [.read (s.sp + 1), .read (s.sp + 2), .read (s.sp + 3), .read (s.sp + 4), .read (s.sp + 5)]
  | .rsp => []
  | .nop => []
  | .wait => []
  | .stop => []
  | .tap => []
  | .tpa => []
  | .txs => []
  | .tsx => []

/-- The addresses an instruction stores to. -/
def storedAddrs (i : Instr) (s : State) : List Word :=
  (accesses i s).filterMap (fun x => match x with
    | .read _ => none
    | .write a => some a)

/-! ### Flags and registers (R21 to R33) -/

/-- What R33's table says of one flag: `-`, `*`, `0`, `1`, `U`, `L`. -/
inductive FlagUse
  | kept
  | computed
  | cleared
  | set
  | drawn
  | loaded
deriving DecidableEq, Repr

/-- What the table's entry requires of the flag by itself. -/
def FlagUse.allows (u : FlagUse) (before after : Bool) : Prop :=
  match u with
  | .kept => after = before
  | .cleared => after = false
  | .set => after = true
  | .computed => True
  | .drawn => True
  | .loaded => True

/-- A row of R33's table. -/
structure FlagRow where
  v : FlagUse
  hf : FlagUse
  i : FlagUse
  n : FlagUse
  z : FlagUse
  c : FlagUse
deriving DecidableEq, Repr

/-- The branches, transfers and all others: no flag. -/
def FlagRow.untouched : FlagRow := ⟨.kept, .kept, .kept, .kept, .kept, .kept⟩

/-- ADC, ADD. -/
def FlagRow.added : FlagRow := ⟨.computed, .computed, .kept, .computed, .computed, .computed⟩

/-- SUB, SBC, CMP, CPX, CPHX, NEG. -/
def FlagRow.subtracted : FlagRow := ⟨.computed, .kept, .kept, .computed, .computed, .computed⟩

/-- AND, BIT, EOR, ORA, loads, stores, MOV, TST. -/
def FlagRow.loaded : FlagRow := ⟨.cleared, .kept, .kept, .computed, .computed, .kept⟩

/-- CLR. -/
def FlagRow.zeroed : FlagRow := ⟨.cleared, .kept, .kept, .cleared, .set, .kept⟩

/-- COM. -/
def FlagRow.complemented : FlagRow := ⟨.cleared, .kept, .kept, .computed, .computed, .set⟩

/-- INC, DEC. -/
def FlagRow.stepped : FlagRow := ⟨.computed, .kept, .kept, .computed, .computed, .kept⟩

/-- LSL, ASR, ROL, ROR. -/
def FlagRow.shifted : FlagRow := ⟨.computed, .kept, .kept, .computed, .computed, .computed⟩

/-- LSR. -/
def FlagRow.shiftedRight : FlagRow := ⟨.computed, .kept, .kept, .cleared, .computed, .computed⟩

/-- DAA. -/
def FlagRow.adjusted : FlagRow := ⟨.drawn, .kept, .kept, .computed, .computed, .computed⟩

/-- MUL. -/
def FlagRow.multiplied : FlagRow := ⟨.kept, .cleared, .kept, .kept, .kept, .cleared⟩

/-- DIV. -/
def FlagRow.divided : FlagRow := ⟨.kept, .kept, .kept, .kept, .computed, .computed⟩

/-- BRSET n, BRCLR n. -/
def FlagRow.bitTested : FlagRow := ⟨.kept, .kept, .kept, .kept, .kept, .computed⟩

/-- SEC. -/
def FlagRow.carrySet : FlagRow := ⟨.kept, .kept, .kept, .kept, .kept, .set⟩

/-- CLC. -/
def FlagRow.carryCleared : FlagRow := ⟨.kept, .kept, .kept, .kept, .kept, .cleared⟩

/-- SEI, SWI. -/
def FlagRow.maskSet : FlagRow := ⟨.kept, .kept, .set, .kept, .kept, .kept⟩

/-- CLI, WAIT, STOP. -/
def FlagRow.maskCleared : FlagRow := ⟨.kept, .kept, .cleared, .kept, .kept, .kept⟩

/-- TAP, RTI. -/
def FlagRow.restored : FlagRow := ⟨.loaded, .loaded, .loaded, .loaded, .loaded, .loaded⟩

/-- What the row requires of the six flags. -/
def FlagRow.allows (r : FlagRow) (before after : Ccr) : Prop :=
  r.v.allows before.v after.v ∧ r.hf.allows before.hf after.hf ∧ r.i.allows before.i after.i
    ∧ r.n.allows before.n after.n ∧ r.z.allows before.z after.z ∧ r.c.allows before.c after.c

/-- Which of A, X, H and SP an instruction may write (R21 to R23). -/
structure RegUse where
  a : Bool
  x : Bool
  h : Bool
  sp : Bool
deriving DecidableEq, Repr

/-- Writes none. -/
def RegUse.noReg : RegUse := ⟨false, false, false, false⟩

/-- Writes A. -/
def RegUse.onlyA : RegUse := ⟨true, false, false, false⟩

/-- Writes X. -/
def RegUse.onlyX : RegUse := ⟨false, true, false, false⟩

/-- Writes H. -/
def RegUse.onlyH : RegUse := ⟨false, false, true, false⟩

/-- Writes H:X. -/
def RegUse.onlyHX : RegUse := ⟨false, true, true, false⟩

/-- Writes SP. -/
def RegUse.onlySp : RegUse := ⟨false, false, false, true⟩

/-- Writes A and SP. -/
def RegUse.aSp : RegUse := ⟨true, false, false, true⟩

/-- Writes X and SP. -/
def RegUse.xSp : RegUse := ⟨false, true, false, true⟩

/-- Writes H and SP. -/
def RegUse.hSp : RegUse := ⟨false, false, true, true⟩

/-- Writes A and X. -/
def RegUse.aX : RegUse := ⟨true, true, false, false⟩

/-- Writes A and H. -/
def RegUse.aH : RegUse := ⟨true, false, true, false⟩

/-- Writes A, X and SP. -/
def RegUse.aXSp : RegUse := ⟨true, true, false, true⟩

/-- The registers that are not marked keep their value. -/
def RegUse.allows (r : RegUse) (s t : State) : Prop :=
  (r.a = false → t.a = s.a) ∧ (r.x = false → t.x = s.x) ∧ (r.h = false → t.h = s.h) ∧ (r.sp = false → t.sp = s.sp)

/-- What an instruction may change of the registers and flags, and whether it is a control transfer (R25). -/
structure Profile where
  flags : FlagRow
  regs : RegUse
  transfer : Bool
deriving DecidableEq, Repr

/-- The profile of every instruction (R21 to R23, R25, R33). -/
def profile (i : Instr) : Profile :=
  match i with
  | .clrDir _ => ⟨.zeroed, .noReg, false⟩
  | .clra => ⟨.zeroed, .onlyA, false⟩
  | .clrx => ⟨.zeroed, .onlyX, false⟩
  | .clrh => ⟨.zeroed, .onlyH, false⟩
  | .clrIx1 _ => ⟨.zeroed, .noReg, false⟩
  | .clrIx => ⟨.zeroed, .noReg, false⟩
  | .clrSp1 _ => ⟨.zeroed, .noReg, false⟩
  | .ldaImm _ => ⟨.loaded, .onlyA, false⟩
  | .ldaDir _ => ⟨.loaded, .onlyA, false⟩
  | .ldaExt _ => ⟨.loaded, .onlyA, false⟩
  | .ldaIx2 _ => ⟨.loaded, .onlyA, false⟩
  | .ldaIx1 _ => ⟨.loaded, .onlyA, false⟩
  | .ldaIx => ⟨.loaded, .onlyA, false⟩
  | .ldaSp2 _ => ⟨.loaded, .onlyA, false⟩
  | .ldaSp1 _ => ⟨.loaded, .onlyA, false⟩
  | .staDir _ => ⟨.loaded, .noReg, false⟩
  | .staExt _ => ⟨.loaded, .noReg, false⟩
  | .staIx2 _ => ⟨.loaded, .noReg, false⟩
  | .staIx1 _ => ⟨.loaded, .noReg, false⟩
  | .staIx => ⟨.loaded, .noReg, false⟩
  | .staSp2 _ => ⟨.loaded, .noReg, false⟩
  | .staSp1 _ => ⟨.loaded, .noReg, false⟩
  | .ldxImm _ => ⟨.loaded, .onlyX, false⟩
  | .ldxDir _ => ⟨.loaded, .onlyX, false⟩
  | .ldxExt _ => ⟨.loaded, .onlyX, false⟩
  | .ldxIx2 _ => ⟨.loaded, .onlyX, false⟩
  | .ldxIx1 _ => ⟨.loaded, .onlyX, false⟩
  | .ldxIx => ⟨.loaded, .onlyX, false⟩
  | .ldxSp2 _ => ⟨.loaded, .onlyX, false⟩
  | .ldxSp1 _ => ⟨.loaded, .onlyX, false⟩
  | .stxDir _ => ⟨.loaded, .noReg, false⟩
  | .stxExt _ => ⟨.loaded, .noReg, false⟩
  | .stxIx2 _ => ⟨.loaded, .noReg, false⟩
  | .stxIx1 _ => ⟨.loaded, .noReg, false⟩
  | .stxIx => ⟨.loaded, .noReg, false⟩
  | .stxSp2 _ => ⟨.loaded, .noReg, false⟩
  | .stxSp1 _ => ⟨.loaded, .noReg, false⟩
  | .nsa => ⟨.untouched, .onlyA, false⟩
  | .tax => ⟨.untouched, .onlyX, false⟩
  | .txa => ⟨.untouched, .onlyA, false⟩
  | .ldhxImm _ => ⟨.loaded, .onlyHX, false⟩
  | .ldhxDir _ => ⟨.loaded, .onlyHX, false⟩
  | .sthxDir _ => ⟨.loaded, .noReg, false⟩
  | .movDirDir _ _ => ⟨.loaded, .noReg, false⟩
  | .movDirIxp _ => ⟨.loaded, .onlyHX, false⟩
  | .movImmDir _ _ => ⟨.loaded, .noReg, false⟩
  | .movIxpDir _ => ⟨.loaded, .onlyHX, false⟩
  | .psha => ⟨.untouched, .onlySp, false⟩
  | .pula => ⟨.untouched, .aSp, false⟩
  | .pshh => ⟨.untouched, .onlySp, false⟩
  | .pulh => ⟨.untouched, .hSp, false⟩
  | .pshx => ⟨.untouched, .onlySp, false⟩
  | .pulx => ⟨.untouched, .xSp, false⟩
  | .bset0 _ => ⟨.untouched, .noReg, false⟩
  | .bset1 _ => ⟨.untouched, .noReg, false⟩
  | .bset2 _ => ⟨.untouched, .noReg, false⟩
  | .bset3 _ => ⟨.untouched, .noReg, false⟩
  | .bset4 _ => ⟨.untouched, .noReg, false⟩
  | .bset5 _ => ⟨.untouched, .noReg, false⟩
  | .bset6 _ => ⟨.untouched, .noReg, false⟩
  | .bset7 _ => ⟨.untouched, .noReg, false⟩
  | .bclr0 _ => ⟨.untouched, .noReg, false⟩
  | .bclr1 _ => ⟨.untouched, .noReg, false⟩
  | .bclr2 _ => ⟨.untouched, .noReg, false⟩
  | .bclr3 _ => ⟨.untouched, .noReg, false⟩
  | .bclr4 _ => ⟨.untouched, .noReg, false⟩
  | .bclr5 _ => ⟨.untouched, .noReg, false⟩
  | .bclr6 _ => ⟨.untouched, .noReg, false⟩
  | .bclr7 _ => ⟨.untouched, .noReg, false⟩
  | .addImm _ => ⟨.added, .onlyA, false⟩
  | .addDir _ => ⟨.added, .onlyA, false⟩
  | .addExt _ => ⟨.added, .onlyA, false⟩
  | .addIx2 _ => ⟨.added, .onlyA, false⟩
  | .addIx1 _ => ⟨.added, .onlyA, false⟩
  | .addIx => ⟨.added, .onlyA, false⟩
  | .addSp2 _ => ⟨.added, .onlyA, false⟩
  | .addSp1 _ => ⟨.added, .onlyA, false⟩
  | .subImm _ => ⟨.subtracted, .onlyA, false⟩
  | .subDir _ => ⟨.subtracted, .onlyA, false⟩
  | .subExt _ => ⟨.subtracted, .onlyA, false⟩
  | .subIx2 _ => ⟨.subtracted, .onlyA, false⟩
  | .subIx1 _ => ⟨.subtracted, .onlyA, false⟩
  | .subIx => ⟨.subtracted, .onlyA, false⟩
  | .subSp2 _ => ⟨.subtracted, .onlyA, false⟩
  | .subSp1 _ => ⟨.subtracted, .onlyA, false⟩
  | .adcImm _ => ⟨.added, .onlyA, false⟩
  | .adcDir _ => ⟨.added, .onlyA, false⟩
  | .adcExt _ => ⟨.added, .onlyA, false⟩
  | .adcIx2 _ => ⟨.added, .onlyA, false⟩
  | .adcIx1 _ => ⟨.added, .onlyA, false⟩
  | .adcIx => ⟨.added, .onlyA, false⟩
  | .adcSp2 _ => ⟨.added, .onlyA, false⟩
  | .adcSp1 _ => ⟨.added, .onlyA, false⟩
  | .sbcImm _ => ⟨.subtracted, .onlyA, false⟩
  | .sbcDir _ => ⟨.subtracted, .onlyA, false⟩
  | .sbcExt _ => ⟨.subtracted, .onlyA, false⟩
  | .sbcIx2 _ => ⟨.subtracted, .onlyA, false⟩
  | .sbcIx1 _ => ⟨.subtracted, .onlyA, false⟩
  | .sbcIx => ⟨.subtracted, .onlyA, false⟩
  | .sbcSp2 _ => ⟨.subtracted, .onlyA, false⟩
  | .sbcSp1 _ => ⟨.subtracted, .onlyA, false⟩
  | .daa => ⟨.adjusted, .onlyA, false⟩
  | .mul => ⟨.multiplied, .aX, false⟩
  | .div => ⟨.divided, .aH, false⟩
  | .decDir _ => ⟨.stepped, .noReg, false⟩
  | .deca => ⟨.stepped, .onlyA, false⟩
  | .decx => ⟨.stepped, .onlyX, false⟩
  | .decIx1 _ => ⟨.stepped, .noReg, false⟩
  | .decIx => ⟨.stepped, .noReg, false⟩
  | .decSp1 _ => ⟨.stepped, .noReg, false⟩
  | .incDir _ => ⟨.stepped, .noReg, false⟩
  | .inca => ⟨.stepped, .onlyA, false⟩
  | .incx => ⟨.stepped, .onlyX, false⟩
  | .incIx1 _ => ⟨.stepped, .noReg, false⟩
  | .incIx => ⟨.stepped, .noReg, false⟩
  | .incSp1 _ => ⟨.stepped, .noReg, false⟩
  | .negDir _ => ⟨.subtracted, .noReg, false⟩
  | .nega => ⟨.subtracted, .onlyA, false⟩
  | .negx => ⟨.subtracted, .onlyX, false⟩
  | .negIx1 _ => ⟨.subtracted, .noReg, false⟩
  | .negIx => ⟨.subtracted, .noReg, false⟩
  | .negSp1 _ => ⟨.subtracted, .noReg, false⟩
  | .ais _ => ⟨.untouched, .onlySp, false⟩
  | .aix _ => ⟨.untouched, .onlyHX, false⟩
  | .asrDir _ => ⟨.shifted, .noReg, false⟩
  | .asra => ⟨.shifted, .onlyA, false⟩
  | .asrx => ⟨.shifted, .onlyX, false⟩
  | .asrIx1 _ => ⟨.shifted, .noReg, false⟩
  | .asrIx => ⟨.shifted, .noReg, false⟩
  | .asrSp1 _ => ⟨.shifted, .noReg, false⟩
  | .lslDir _ => ⟨.shifted, .noReg, false⟩
  | .lsla => ⟨.shifted, .onlyA, false⟩
  | .lslx => ⟨.shifted, .onlyX, false⟩
  | .lslIx1 _ => ⟨.shifted, .noReg, false⟩
  | .lslIx => ⟨.shifted, .noReg, false⟩
  | .lslSp1 _ => ⟨.shifted, .noReg, false⟩
  | .lsrDir _ => ⟨.shiftedRight, .noReg, false⟩
  | .lsra => ⟨.shiftedRight, .onlyA, false⟩
  | .lsrx => ⟨.shiftedRight, .onlyX, false⟩
  | .lsrIx1 _ => ⟨.shiftedRight, .noReg, false⟩
  | .lsrIx => ⟨.shiftedRight, .noReg, false⟩
  | .lsrSp1 _ => ⟨.shiftedRight, .noReg, false⟩
  | .rolDir _ => ⟨.shifted, .noReg, false⟩
  | .rola => ⟨.shifted, .onlyA, false⟩
  | .rolx => ⟨.shifted, .onlyX, false⟩
  | .rolIx1 _ => ⟨.shifted, .noReg, false⟩
  | .rolIx => ⟨.shifted, .noReg, false⟩
  | .rolSp1 _ => ⟨.shifted, .noReg, false⟩
  | .rorDir _ => ⟨.shifted, .noReg, false⟩
  | .rora => ⟨.shifted, .onlyA, false⟩
  | .rorx => ⟨.shifted, .onlyX, false⟩
  | .rorIx1 _ => ⟨.shifted, .noReg, false⟩
  | .rorIx => ⟨.shifted, .noReg, false⟩
  | .rorSp1 _ => ⟨.shifted, .noReg, false⟩
  | .andImm _ => ⟨.loaded, .onlyA, false⟩
  | .andDir _ => ⟨.loaded, .onlyA, false⟩
  | .andExt _ => ⟨.loaded, .onlyA, false⟩
  | .andIx2 _ => ⟨.loaded, .onlyA, false⟩
  | .andIx1 _ => ⟨.loaded, .onlyA, false⟩
  | .andIx => ⟨.loaded, .onlyA, false⟩
  | .andSp2 _ => ⟨.loaded, .onlyA, false⟩
  | .andSp1 _ => ⟨.loaded, .onlyA, false⟩
  | .oraImm _ => ⟨.loaded, .onlyA, false⟩
  | .oraDir _ => ⟨.loaded, .onlyA, false⟩
  | .oraExt _ => ⟨.loaded, .onlyA, false⟩
  | .oraIx2 _ => ⟨.loaded, .onlyA, false⟩
  | .oraIx1 _ => ⟨.loaded, .onlyA, false⟩
  | .oraIx => ⟨.loaded, .onlyA, false⟩
  | .oraSp2 _ => ⟨.loaded, .onlyA, false⟩
  | .oraSp1 _ => ⟨.loaded, .onlyA, false⟩
  | .eorImm _ => ⟨.loaded, .onlyA, false⟩
  | .eorDir _ => ⟨.loaded, .onlyA, false⟩
  | .eorExt _ => ⟨.loaded, .onlyA, false⟩
  | .eorIx2 _ => ⟨.loaded, .onlyA, false⟩
  | .eorIx1 _ => ⟨.loaded, .onlyA, false⟩
  | .eorIx => ⟨.loaded, .onlyA, false⟩
  | .eorSp2 _ => ⟨.loaded, .onlyA, false⟩
  | .eorSp1 _ => ⟨.loaded, .onlyA, false⟩
  | .comDir _ => ⟨.complemented, .noReg, false⟩
  | .coma => ⟨.complemented, .onlyA, false⟩
  | .comx => ⟨.complemented, .onlyX, false⟩
  | .comIx1 _ => ⟨.complemented, .noReg, false⟩
  | .comIx => ⟨.complemented, .noReg, false⟩
  | .comSp1 _ => ⟨.complemented, .noReg, false⟩
  | .cmpImm _ => ⟨.subtracted, .noReg, false⟩
  | .cmpDir _ => ⟨.subtracted, .noReg, false⟩
  | .cmpExt _ => ⟨.subtracted, .noReg, false⟩
  | .cmpIx2 _ => ⟨.subtracted, .noReg, false⟩
  | .cmpIx1 _ => ⟨.subtracted, .noReg, false⟩
  | .cmpIx => ⟨.subtracted, .noReg, false⟩
  | .cmpSp2 _ => ⟨.subtracted, .noReg, false⟩
  | .cmpSp1 _ => ⟨.subtracted, .noReg, false⟩
  | .cpxImm _ => ⟨.subtracted, .noReg, false⟩
  | .cpxDir _ => ⟨.subtracted, .noReg, false⟩
  | .cpxExt _ => ⟨.subtracted, .noReg, false⟩
  | .cpxIx2 _ => ⟨.subtracted, .noReg, false⟩
  | .cpxIx1 _ => ⟨.subtracted, .noReg, false⟩
  | .cpxIx => ⟨.subtracted, .noReg, false⟩
  | .cpxSp2 _ => ⟨.subtracted, .noReg, false⟩
  | .cpxSp1 _ => ⟨.subtracted, .noReg, false⟩
  | .cphxImm _ => ⟨.subtracted, .noReg, false⟩
  | .cphxDir _ => ⟨.subtracted, .noReg, false⟩
  | .bitImm _ => ⟨.loaded, .noReg, false⟩
  | .bitDir _ => ⟨.loaded, .noReg, false⟩
  | .bitExt _ => ⟨.loaded, .noReg, false⟩
  | .bitIx2 _ => ⟨.loaded, .noReg, false⟩
  | .bitIx1 _ => ⟨.loaded, .noReg, false⟩
  | .bitIx => ⟨.loaded, .noReg, false⟩
  | .bitSp2 _ => ⟨.loaded, .noReg, false⟩
  | .bitSp1 _ => ⟨.loaded, .noReg, false⟩
  | .tstDir _ => ⟨.loaded, .noReg, false⟩
  | .tsta => ⟨.loaded, .noReg, false⟩
  | .tstx => ⟨.loaded, .noReg, false⟩
  | .tstIx1 _ => ⟨.loaded, .noReg, false⟩
  | .tstIx => ⟨.loaded, .noReg, false⟩
  | .tstSp1 _ => ⟨.loaded, .noReg, false⟩
  | .brclr0 _ _ => ⟨.bitTested, .noReg, true⟩
  | .brclr1 _ _ => ⟨.bitTested, .noReg, true⟩
  | .brclr2 _ _ => ⟨.bitTested, .noReg, true⟩
  | .brclr3 _ _ => ⟨.bitTested, .noReg, true⟩
  | .brclr4 _ _ => ⟨.bitTested, .noReg, true⟩
  | .brclr5 _ _ => ⟨.bitTested, .noReg, true⟩
  | .brclr6 _ _ => ⟨.bitTested, .noReg, true⟩
  | .brclr7 _ _ => ⟨.bitTested, .noReg, true⟩
  | .brset0 _ _ => ⟨.bitTested, .noReg, true⟩
  | .brset1 _ _ => ⟨.bitTested, .noReg, true⟩
  | .brset2 _ _ => ⟨.bitTested, .noReg, true⟩
  | .brset3 _ _ => ⟨.bitTested, .noReg, true⟩
  | .brset4 _ _ => ⟨.bitTested, .noReg, true⟩
  | .brset5 _ _ => ⟨.bitTested, .noReg, true⟩
  | .brset6 _ _ => ⟨.bitTested, .noReg, true⟩
  | .brset7 _ _ => ⟨.bitTested, .noReg, true⟩
  | .bra _ => ⟨.untouched, .noReg, true⟩
  | .brn _ => ⟨.untouched, .noReg, true⟩
  | .beq _ => ⟨.untouched, .noReg, true⟩
  | .bne _ => ⟨.untouched, .noReg, true⟩
  | .bsr _ => ⟨.untouched, .onlySp, true⟩
  | .bhi _ => ⟨.untouched, .noReg, true⟩
  | .bls _ => ⟨.untouched, .noReg, true⟩
  | .bpl _ => ⟨.untouched, .noReg, true⟩
  | .bmi _ => ⟨.untouched, .noReg, true⟩
  | .bcc _ => ⟨.untouched, .noReg, true⟩
  | .bcs _ => ⟨.untouched, .noReg, true⟩
  | .bhcc _ => ⟨.untouched, .noReg, true⟩
  | .bhcs _ => ⟨.untouched, .noReg, true⟩
  | .bmc _ => ⟨.untouched, .noReg, true⟩
  | .bms _ => ⟨.untouched, .noReg, true⟩
  | .bih _ => ⟨.untouched, .noReg, true⟩
  | .bil _ => ⟨.untouched, .noReg, true⟩
  | .bge _ => ⟨.untouched, .noReg, true⟩
  | .bgt _ => ⟨.untouched, .noReg, true⟩
  | .ble _ => ⟨.untouched, .noReg, true⟩
  | .blt _ => ⟨.untouched, .noReg, true⟩
  | .cbeqDir _ _ => ⟨.untouched, .noReg, true⟩
  | .cbeqa _ _ => ⟨.untouched, .noReg, true⟩
  | .cbeqx _ _ => ⟨.untouched, .noReg, true⟩
  | .cbeqIx1p _ _ => ⟨.untouched, .onlyHX, true⟩
  | .cbeqIxp _ => ⟨.untouched, .onlyHX, true⟩
  | .cbeqSp1 _ _ => ⟨.untouched, .noReg, true⟩
  | .dbnzDir _ _ => ⟨.untouched, .noReg, true⟩
  | .dbnza _ => ⟨.untouched, .onlyA, true⟩
  | .dbnzx _ => ⟨.untouched, .onlyX, true⟩
  | .dbnzIx1 _ _ => ⟨.untouched, .noReg, true⟩
  | .dbnzIx _ => ⟨.untouched, .noReg, true⟩
  | .dbnzSp1 _ _ => ⟨.untouched, .noReg, true⟩
  | .jmpDir _ => ⟨.untouched, .noReg, true⟩
  | .jmpExt _ => ⟨.untouched, .noReg, true⟩
  | .jmpIx2 _ => ⟨.untouched, .noReg, true⟩
  | .jmpIx1 _ => ⟨.untouched, .noReg, true⟩
  | .jmpIx => ⟨.untouched, .noReg, true⟩
  | .jsrDir _ => ⟨.untouched, .onlySp, true⟩
  | .jsrExt _ => ⟨.untouched, .onlySp, true⟩
  | .jsrIx2 _ => ⟨.untouched, .onlySp, true⟩
  | .jsrIx1 _ => ⟨.untouched, .onlySp, true⟩
  | .jsrIx => ⟨.untouched, .onlySp, true⟩
  | .rts => ⟨.untouched, .onlySp, true⟩
  | .sec => ⟨.carrySet, .noReg, false⟩
  | .clc => ⟨.carryCleared, .noReg, false⟩
  | .cli => ⟨.maskCleared, .noReg, false⟩
  | .sei => ⟨.maskSet, .noReg, false⟩
  | .swi => ⟨.maskSet, .onlySp, true⟩
  | .rti => ⟨.restored, .aXSp, true⟩
  | .rsp => ⟨.untouched, .onlySp, false⟩
  | .nop => ⟨.untouched, .noReg, false⟩
  | .wait => ⟨.maskCleared, .noReg, false⟩
  | .stop => ⟨.maskCleared, .noReg, false⟩
  | .tap => ⟨.restored, .noReg, false⟩
  | .tpa => ⟨.untouched, .onlyA, false⟩
  | .txs => ⟨.untouched, .onlySp, false⟩
  | .tsx => ⟨.untouched, .onlyHX, false⟩

/-! ### Encodings of the families (R101) -/

/-- The bytes decode to the instruction, with its length, and the cycle column gives its count. -/
def encodedAs (i : Instr) (bytes : List Byte) (cycles : Nat) : Prop :=
  decode bytes = .instr i bytes.length ∧ i.cycles = cycles

/-- The bytes of an accumulator operation whose immediate opcode is `A0 + k` (R101 (a)). -/
def srcBytes (k : Byte) (o : Src) : List Byte :=
  match o with
  | .imm ii => [0xA0 + k, ii]
  | .mem (.dir dd) => [0xB0 + k, dd]
  | .mem (.ext hhll) => [0xC0 + k, hiByte hhll, loByte hhll]
  | .mem (.ix2 eeff) => [0xD0 + k, hiByte eeff, loByte eeff]
  | .mem (.ix1 ff) => [0xE0 + k, ff]
  | .mem .ix => [0xF0 + k]
  | .mem (.sp2 eeff) => [0x9E, 0xD0 + k, hiByte eeff, loByte eeff]
  | .mem (.sp1 ff) => [0x9E, 0xE0 + k, ff]

/-- The cycles of an accumulator operation or a store by its form (spec/70_reset_and_hazards.md R362). -/
def srcCycles (o : Src) : Nat :=
  match o with
  | .imm _ => 2
  | .mem (.dir _) => 3
  | .mem (.ext _) => 4
  | .mem (.ix2 _) => 4
  | .mem (.ix1 _) => 3
  | .mem .ix => 2
  | .mem (.sp2 _) => 5
  | .mem (.sp1 _) => 4

/-- The bytes of a one-operand operation whose direct opcode is `30 + k` (R101 (b)). -/
def placeBytesOf (k : Byte) (p : Place) : List Byte :=
  match p with
  | .dir dd => [0x30 + k, dd]
  | .a => [0x40 + k]
  | .x => [0x50 + k]
  | .ix1 ff => [0x60 + k, ff]
  | .ix => [0x70 + k]
  | .sp1 ff => [0x9E, 0x60 + k, ff]

/-- The cycles of a read-modify-write operation by its place (R362). -/
def modifyCycles (p : Place) : Nat :=
  match p with
  | .dir _ => 4
  | .a => 1
  | .x => 1
  | .ix1 _ => 4
  | .ix => 3
  | .sp1 _ => 5

/-- The cycles of TST and CLR by their place (R362). -/
def testCycles (p : Place) : Nat :=
  match p with
  | .dir _ => 3
  | .a => 1
  | .x => 1
  | .ix1 _ => 3
  | .ix => 2
  | .sp1 _ => 4

/-! ### The invariant -/

/-- What every step keeps: the canonical form of memory; no source twice in `PENDING` (spec/10_state.md R35 calls it a
set); WAITING and STOPPED only with I clear (R291, R292); the late window open only with I set (R317). -/
abbrev State.Inv (s : State) : Prop :=
  s.mem.wf ∧ s.pending.Nodup ∧ (s.run ≠ .running → s.ccr.i = false) ∧ (s.seiWindow = true → s.ccr.i = true)

end Sys2Proof.Machine
end

