-- ==== Sys2Proof/WellFormed.lean ====
section
/-! DEFINITION. What is well formed: an instruction, and the parameters of a launch. -/

namespace Sys2Proof

/-- An instruction is well formed with every value of its operand bytes: the spec reserves none
(spec/30_encoding.md R104). An operand out of range cannot be written: a bit number is part of the row (R98), and
the widths are those of R105. -/
def Instr.wellFormed (_ : Instr) : Bool := true

/-- Two regions have no address in common. -/
def Region.apart (p q : Region) : Bool := decide (p.base + p.size ≤ q.base) || decide (q.base + q.size ≤ p.base)

/-- A region is not empty and lies in the address space (spec/20_memory.md R56). -/
def Region.wellFormed (r : Region) : Bool := decide (0 < r.size) && decide (r.base + r.size ≤ 65536)

/-- The parameters of a launch are well formed: `MEMMAP` gives each address one kind (R57), no source is listed
twice, and the IRQ pin is a source (spec/60_exceptions.md R313). -/
def Params.wellFormed (p : Params) : Bool :=
  p.regions.all Region.wellFormed
    && decide (p.regions.Pairwise (fun a b => Region.apart a b = true))
    && decide (p.sources.map (fun q => q.1)).Nodup
    && (p.sources.map (fun q => q.1)).contains .irq

end Sys2Proof
end

