-- ==== Sys2Proof/Certificates/Slice0/Obligations.lean ====
section
/-! DEFINITION. The statements about the model, for the provers. -/

open Sys2Proof Sys2Proof.Machine

/-! ### Encoding -/

/-- R83, R84, R105: the bytes that encode an instruction decode to it, whatever follows them, and its length is the
number of those bytes. -/
def Obligations.DecodeOfEncode : Prop :=
  ∀ (i : Instr) (rest : List Byte), i.wellFormed = true →
    decode (encode i ++ rest) = .instr i (encode i).length

/-- R83, R99: bytes that decode to an instruction begin with exactly the bytes that encode it. -/
def Obligations.EncodeOfDecode : Prop :=
  ∀ (bytes : List Byte) (i : Instr) (n : Nat), decode bytes = .instr i n →
    i.wellFormed = true ∧ 1 ≤ n ∧ n ≤ 4 ∧ n ≤ bytes.length ∧ bytes.take n = encode i

/-- R82, R102, R103: the six unassigned page-1 bytes and the 215 unassigned second bytes after the prefix are
illegal and reported, and no other bytes are. -/
def Obligations.UnassignedOpcodes : Prop :=
  (∀ (b0 : Byte) (rest : List Byte),
    decode (b0 :: rest) = .illegal [b0] ↔ b0 ∈ ([0x32, 0x3E, 0x82, 0x8D, 0x96, 0xAC] : List Byte)) ∧
  (∀ (b1 : Byte) (rest : List Byte), decode (0x9E :: b1 :: rest) = .illegal [0x9E, b1] ↔
    b1 ∉ ([0x60, 0x61, 0x63, 0x64, 0x66, 0x67, 0x68, 0x69, 0x6A, 0x6B, 0x6C, 0x6D, 0x6F,
      0xD0, 0xD1, 0xD2, 0xD3, 0xD4, 0xD5, 0xD6, 0xD7, 0xD8, 0xD9, 0xDA, 0xDB, 0xDE, 0xDF,
      0xE0, 0xE1, 0xE2, 0xE3, 0xE4, 0xE5, 0xE6, 0xE7, 0xE8, 0xE9, 0xEA, 0xEB, 0xEE, 0xEF] : List Byte)) ∧
  (∀ (bytes opcode : List Byte), decode bytes = .illegal opcode →
    opcode.length ≤ bytes.length ∧ bytes.take opcode.length = opcode ∧ (opcode.length = 1 ∨ opcode.length = 2))

/-- R82, R362: every stack-pointer form is the prefix `9E` before the bytes of the corresponding indexed form, and takes
one cycle more. -/
def Obligations.PrefixForms : Prop :=
  (∀ (op : SrcOp) (ff : Byte) (eeff : Word),
    encode (.ofSrc op (.mem (.sp1 ff))) = 0x9E :: encode (.ofSrc op (.mem (.ix1 ff))) ∧
    encode (.ofSrc op (.mem (.sp2 eeff))) = 0x9E :: encode (.ofSrc op (.mem (.ix2 eeff))) ∧
    (Instr.ofSrc op (.mem (.sp1 ff))).cycles = (Instr.ofSrc op (.mem (.ix1 ff))).cycles + 1 ∧
    (Instr.ofSrc op (.mem (.sp2 eeff))).cycles = (Instr.ofSrc op (.mem (.ix2 eeff))).cycles + 1) ∧
  (∀ (ff : Byte) (eeff : Word),
    encode (.staSp1 ff) = 0x9E :: encode (.staIx1 ff) ∧ encode (.staSp2 eeff) = 0x9E :: encode (.staIx2 eeff) ∧
    encode (.stxSp1 ff) = 0x9E :: encode (.stxIx1 ff) ∧ encode (.stxSp2 eeff) = 0x9E :: encode (.stxIx2 eeff) ∧
    (Instr.staSp1 ff).cycles = (Instr.staIx1 ff).cycles + 1 ∧ (Instr.staSp2 eeff).cycles = (Instr.staIx2 eeff).cycles + 1 ∧
    (Instr.stxSp1 ff).cycles = (Instr.stxIx1 ff).cycles + 1 ∧
    (Instr.stxSp2 eeff).cycles = (Instr.stxIx2 eeff).cycles + 1) ∧
  (∀ (op : PlaceOp) (ff : Byte),
    encode (.ofPlace op (.sp1 ff)) = 0x9E :: encode (.ofPlace op (.ix1 ff)) ∧
    (Instr.ofPlace op (.sp1 ff)).cycles = (Instr.ofPlace op (.ix1 ff)).cycles + 1) ∧
  (∀ (ff rr : Byte),
    encode (.dbnzSp1 ff rr) = 0x9E :: encode (.dbnzIx1 ff rr) ∧
    encode (.cbeqSp1 ff rr) = 0x9E :: encode (.cbeqIx1p ff rr) ∧
    (Instr.dbnzSp1 ff rr).cycles = (Instr.dbnzIx1 ff rr).cycles + 1 ∧
    (Instr.cbeqSp1 ff rr).cycles = (Instr.cbeqIx1p ff rr).cycles + 1)

/-- Sanity: words written out from the encoding tables decode to the instructions they stand for. -/
def Obligations.SampleWords : Prop :=
  decode [0xA6, 0x80] = .instr (.ldaImm 0x80) 2 ∧
  decode [0xC6, 0x12, 0x34] = .instr (.ldaExt 0x1234) 3 ∧
  decode [0x4E, 0x10, 0x11] = .instr (.movDirDir 0x10 0x11) 3 ∧
  decode [0x14, 0x50] = .instr (.bset2 0x50) 2 ∧
  decode [0x9E, 0xEB, 0x01] = .instr (.addSp1 0x01) 3 ∧
  decode [0x72] = .instr .daa 1 ∧
  decode [0x9E, 0x6F, 0x7F] = .instr (.clrSp1 0x7F) 3 ∧
  decode [0xAF, 0xFF] = .instr (.aix 0xFF) 2 ∧
  decode [0x69, 0x02] = .instr (.rolIx1 0x02) 2 ∧
  decode [0x63, 0x02] = .instr (.comIx1 0x02) 2 ∧
  decode [0x65, 0x0F, 0x00] = .instr (.cphxImm 0x0F00) 3 ∧
  decode [0x01, 0x50, 0x0A] = .instr (.brclr0 0x50 0x0A) 3 ∧
  decode [0x22, 0x10] = .instr (.bhi 0x10) 2 ∧
  decode [0x71, 0xFE] = .instr (.cbeqIxp 0xFE) 2 ∧
  decode [0x9E, 0x6B, 0x02, 0xFB] = .instr (.dbnzSp1 0x02 0xFB) 4 ∧
  decode [0xDC, 0x6E, 0x0B] = .instr (.jmpIx2 0x6E0B) 3 ∧
  decode [0x83] = .instr .swi 1

/-! ### The step -/

/-- R14, R83, R316: where the boundary calls for an instruction and the bytes at PC decode to one, the step is that
instruction's meaning; and a boundary with a silent environment and nothing to take calls for an instruction, with
nothing changed but the late window. -/
def Obligations.StepRunsDecoded : Prop :=
  (∀ (s s1 : State) (i : Instr), boundary s = (.execute, s1) → i.wellFormed = true →
    s1.fetchableRange s1.pc (encode i).length = true →
    s1.bytesAt s1.pc (encode i).length = encode i → step s = exec i s1) ∧
  (∀ s : State, s.inputs = [] → s.run = .running → (s.pending = [] ∨ s.ccr.i = true ∧ s.seiWindow = false) →
    boundary s = (.execute, { s with seiWindow := false }))

/-- R61, R83, R312, R103: where the bytes fetched so far are not yet an instruction, the next byte from an IO address is
refused and from an unimplemented one faults; an unassigned byte or pair faults and reports PC and the bytes; where the
launch asks for it (log 12) it resets instead. -/
def Obligations.StepStops : Prop :=
  ∀ s s1 : State, boundary s = (.execute, s1) →
    (∀ n < 4, s1.fetchableRange s1.pc n = true → decode (s1.bytesAt s1.pc n) = .short →
      let a := s1.pc + BitVec.ofNat 16 n
      (s1.kindAt a = .io → step s = .refused (.fetchFromIo a)) ∧
      (s1.kindAt a = .unimplemented → step s = .fault (.illegalAddress a))) ∧
    (s1.fetchable s1.pc → s1.peek s1.pc ∈ ([0x32, 0x3E, 0x82, 0x8D, 0x96, 0xAC] : List Byte) →
      step s = if s1.params.illegalOpcodeResets then finish (resetMachine s1)
        else .fault (.illegalOpcode s1.pc [s1.peek s1.pc])) ∧
    (s1.fetchable s1.pc → s1.peek s1.pc = 0x9E → s1.fetchable (s1.pc + 1) →
      (∃ op, decode [0x9E, s1.peek (s1.pc + 1)] = .illegal op) →
      step s = if s1.params.illegalOpcodeResets then finish (resetMachine s1)
        else .fault (.illegalOpcode s1.pc [0x9E, s1.peek (s1.pc + 1)]))

/-! ### Memory, operands, flags -/

/-- R58, R59, R60: what a read does at each kind of address. -/
def Obligations.ByteReadByKind : Prop :=
  ∀ (a : Word) (s : State),
    (s.kindAt a = .ram → readByte a s = .ok (s.peek a, s)) ∧
    (s.kindAt a = .rom → readByte a s = .ok (s.peek a, s)) ∧
    (s.kindAt a = .unimplemented → readByte a s = .error (.fault (.illegalAddress a))) ∧
    (s.kindAt a = .io → ∃ v, readByte a s = .ok (v,
      { s with draws := s.draws + 1, ioTrace := .read a v :: s.ioTrace }))

/-- R58, R59, R60: what a write does at each kind of address, and what reads give afterwards. -/
def Obligations.ByteWriteByKind : Prop :=
  ∀ (a : Word) (v : Byte) (s : State),
    (s.kindAt a = .ram → ∃ t, writeByte a v s = .ok t ∧ t = { s with mem := t.mem } ∧ t.peek a = v ∧
      (∀ b, b ≠ a → t.peek b = s.peek b)) ∧
    (s.kindAt a = .rom → writeByte a v s = .error (.fault (.writeToRom a))) ∧
    (s.kindAt a = .unimplemented → writeByte a v s = .error (.fault (.illegalAddress a))) ∧
    (s.kindAt a = .io → writeByte a v s = .ok { s with ioTrace := .write a v :: s.ioTrace })

/-- R50, R53: a 16-bit value in RAM has its high byte at the lower address, and is read back whole, at every address. -/
def Obligations.WordBigEndian : Prop :=
  ∀ (a v : Word) (s : State), s.kindAt a = .ram → s.kindAt (a + 1) = .ram →
    ∃ t, writeWord a v s = .ok t ∧ t.peek a = hiByte v ∧ t.peek (a + 1) = loByte v ∧
      readWord a t = .ok (v, t) ∧ (∀ b, b ≠ a → b ≠ a + 1 → t.peek b = s.peek b)

/-- R87 to R91, R94, R95: the effective address of each mode, as a number. -/
def Obligations.EffectiveAddresses : Prop :=
  ∀ (s : State) (b : Byte) (w : Word),
    (eaOf (.dir b) s).toNat = b.toNat ∧
    eaOf (.ext w) s = w ∧
    (eaOf .ix s).toNat = s.h.toNat * 256 + s.x.toNat ∧
    (eaOf (.ix1 b) s).toNat = (s.h.toNat * 256 + s.x.toNat + b.toNat) % 65536 ∧
    (eaOf (.ix2 w) s).toNat = (s.h.toNat * 256 + s.x.toNat + w.toNat) % 65536 ∧
    (eaOf (.sp1 b) s).toNat = (s.sp.toNat + b.toNat) % 65536 ∧
    (eaOf (.sp2 w) s).toNat = (s.sp.toNat + w.toNat) % 65536

/-- R26: the CCR as a byte is V:1:1:H:I:N:Z:C, and a byte written to it leaves bits 6 and 5 reading 1. -/
def Obligations.CcrLayout : Prop :=
  (∀ f : Ccr,
    f.byte.getLsbD 7 = f.v ∧ f.byte.getLsbD 6 = true ∧ f.byte.getLsbD 5 = true ∧ f.byte.getLsbD 4 = f.hf ∧
    f.byte.getLsbD 3 = f.i ∧ f.byte.getLsbD 2 = f.n ∧ f.byte.getLsbD 1 = f.z ∧ f.byte.getLsbD 0 = f.c ∧
    Ccr.ofByte f.byte = f) ∧
  (∀ b : Byte, (Ccr.ofByte b).byte = b ||| 0x60)

/-- R160: the flags of the additions and subtractions by the restored Boolean forms; and what they mean: carry and
borrow are the unsigned overflow, V is the signed one. -/
def Obligations.ArithmeticFlags : Prop :=
  (∀ (f : Ccr) (a m : Byte) (cin : Bool),
    let r := add8 a m cin
    let g := f.added8 a m cin
    let bit := fun (x : Byte) k => x.getLsbD k
    g.v = (bit a 7 && bit m 7 && !bit r 7 || !bit a 7 && !bit m 7 && bit r 7) ∧
    g.hf = (bit a 3 && bit m 3 || bit m 3 && !bit r 3 || !bit r 3 && bit a 3) ∧
    g.c = (bit a 7 && bit m 7 || bit m 7 && !bit r 7 || !bit r 7 && bit a 7) ∧
    g.n = bit r 7 ∧ g.z = decide (r = 0) ∧ g.i = f.i ∧
    (g.v = false ↔ r.toInt = a.toInt + m.toInt + bitNat cin) ∧
    (g.c = false ↔ r.toNat = a.toNat + m.toNat + bitNat cin)) ∧
  (∀ (f : Ccr) (a m : Byte) (bin : Bool),
    let r := sub8 a m bin
    let g := f.subbed8 a m bin
    let bit := fun (x : Byte) k => x.getLsbD k
    g.v = (bit a 7 && !bit m 7 && !bit r 7 || !bit a 7 && bit m 7 && bit r 7) ∧
    g.c = (!bit a 7 && bit m 7 || bit m 7 && bit r 7 || bit r 7 && !bit a 7) ∧
    g.n = bit r 7 ∧ g.z = decide (r = 0) ∧ g.i = f.i ∧ g.hf = f.hf ∧
    (g.v = false ↔ r.toInt = a.toInt - m.toInt - bitNat bin) ∧
    (g.c = false ↔ (r.toNat : Int) = a.toNat - m.toNat - bitNat bin)) ∧
  (∀ (f : Ccr) (a m : Word),
    let r := sub16 a m
    let g := f.subbed16 a m
    g.n = r.getLsbD 15 ∧ g.z = decide (r = 0) ∧ g.i = f.i ∧ g.hf = f.hf ∧
    (g.v = false ↔ r.toInt = a.toInt - m.toInt) ∧
    (g.c = false ↔ (r.toNat : Int) = a.toNat - m.toNat))

/-! ### What each instruction does -/

/-- R122, R124: LDA and LDX in all eight forms. -/
def Obligations.LoadResult : Prop :=
  (∀ o, encodedAs (.ofSrc .lda o) (srcBytes 0x6 o) (srcCycles o) ∧
    encodedAs (.ofSrc .ldx o) (srcBytes 0xE o) (srcCycles o)) ∧
  ∀ (o : Src) (s : State), srcReadable o s →
    let m := srcValue o s
    let f := { s.ccr with v := false, n := m.getLsbD 7, z := decide (m = 0) }
    exec (.ofSrc .lda o) s = .next { srcAfter o s with a := m, ccr := f, pc := s.npc (srcLen o) } ∧
    exec (.ofSrc .ldx o) s = .next { srcAfter o s with x := m, ccr := f, pc := s.npc (srcLen o) }

/-- R123, R125: STA and STX in all seven forms; the flags reflect the register. -/
def Obligations.StoreResult : Prop :=
  (∀ e, encodedAs (.ofSta e) (srcBytes 0x7 (.mem e)) (srcCycles (.mem e)) ∧
    encodedAs (.ofStx e) (srcBytes 0xF (.mem e)) (srcCycles (.mem e))) ∧
  ∀ (e : Ea) (s : State), s.writable (eaOf e s) →
    let flags := fun (v : Byte) => { s.ccr with v := false, n := v.getLsbD 7, z := decide (v = 0) }
    exec (.ofSta e) s = .next { s.afterWrite (eaOf e s) s.a with ccr := flags s.a, pc := s.npc (eaLen e) } ∧
    exec (.ofStx e) s = .next { s.afterWrite (eaOf e s) s.x with ccr := flags s.x, pc := s.npc (eaLen e) }

/-- R121: CLR in all forms. -/
def Obligations.ClearResult : Prop :=
  (∀ p, encodedAs (.ofPlace .clr p) (placeBytesOf 0xF p) (testCycles p)) ∧ encodedAs .clrh [0x8C] 1 ∧
  ∀ s : State,
    let f := { s.ccr with v := false, n := false, z := true }
    (∀ p, placeWritable p s →
      exec (.ofPlace .clr p) s = .next { placePut p 0 s with ccr := f, pc := s.npc (placeLen p) }) ∧
    exec .clrh s = .next { s with h := 0, ccr := f, pc := s.pc + 1 }

/-- R126, R127, R128: NSA, TAX and TXA change their one register and PC. -/
def Obligations.NsaTaxTxaResult : Prop :=
  encodedAs .nsa [0x62] 3 ∧ encodedAs .tax [0x97] 1 ∧ encodedAs .txa [0x9F] 1 ∧
  ∀ s : State,
    exec .nsa s = .next { s with a := (s.a <<< 4) ||| (s.a >>> 4), pc := s.pc + 1 } ∧
    exec .tax s = .next { s with x := s.a, pc := s.pc + 1 } ∧
    exec .txa s = .next { s with a := s.x, pc := s.pc + 1 }

/-- R129, R130: LDHX and STHX; H is the byte at the lower address. That LDHX reads the lower address first is the
spec's own choice (R53, D10; log 20). -/
def Obligations.LdhxSthxResult : Prop :=
  (∀ jjkk, encodedAs (.ldhxImm jjkk) [0x45, hiByte jjkk, loByte jjkk] 3) ∧
  (∀ dd, encodedAs (.ldhxDir dd) [0x55, dd] 4 ∧ encodedAs (.sthxDir dd) [0x35, dd] 4) ∧
  ∀ s : State,
    let flags := fun (hi lo : Byte) =>
      { s.ccr with v := false, n := hi.getLsbD 7, z := decide (hi = 0) && decide (lo = 0) }
    (∀ jjkk, exec (.ldhxImm jjkk) s = .next
      { s with h := hiByte jjkk, x := loByte jjkk, ccr := flags (hiByte jjkk) (loByte jjkk), pc := s.pc + 3 }) ∧
    (∀ dd, s.readable (zext16 dd) → s.readable (zext16 dd + 1) →
      let s1 := s.afterRead (zext16 dd)
      let hi := s.readValue (zext16 dd)
      let lo := s1.readValue (zext16 dd + 1)
      exec (.ldhxDir dd) s = .next
        { s1.afterRead (zext16 dd + 1) with h := hi, x := lo, ccr := flags hi lo, pc := s.pc + 2 }) ∧
    (∀ dd, s.writable (zext16 dd) → s.writable (zext16 dd + 1) →
      exec (.sthxDir dd) s = .next
        { (s.afterWrite (zext16 dd) s.h).afterWrite (zext16 dd + 1) s.x with
          ccr := flags s.h s.x, pc := s.pc + 2 })

/-- R131: the four modes of MOV; the X+ modes increment H:X after the move. That the first operand byte of `4E` is the
source is the spec's own choice (R97, D1; log 21). -/
def Obligations.MovResult : Prop :=
  (∀ b d, encodedAs (.movDirDir b d) [0x4E, b, d] 5 ∧ encodedAs (.movDirIxp b) [0x5E, b] 4 ∧
    encodedAs (.movImmDir b d) [0x6E, b, d] 4 ∧ encodedAs (.movIxpDir d) [0x7E, d] 4) ∧
  ∀ (s : State) (b d : Byte),
    let flags := fun (v : Byte) => { s.ccr with v := false, n := v.getLsbD 7, z := decide (v = 0) }
    (s.readable (zext16 b) → s.writable (zext16 d) →
      exec (.movDirDir b d) s = .next
        { (s.afterRead (zext16 b)).afterWrite (zext16 d) (s.readValue (zext16 b)) with
          ccr := flags (s.readValue (zext16 b)), pc := s.pc + 3 }) ∧
    (s.readable (zext16 b) → s.writable s.hx →
      exec (.movDirIxp b) s = .next
        { (s.afterRead (zext16 b)).afterWrite s.hx (s.readValue (zext16 b)) with
          h := hiByte (s.hx + 1), x := loByte (s.hx + 1), ccr := flags (s.readValue (zext16 b)), pc := s.pc + 2 }) ∧
    (s.writable (zext16 d) →
      exec (.movImmDir b d) s = .next { s.afterWrite (zext16 d) b with ccr := flags b, pc := s.pc + 3 }) ∧
    (s.readable s.hx → s.writable (zext16 d) →
      exec (.movIxpDir d) s = .next
        { (s.afterRead s.hx).afterWrite (zext16 d) (s.readValue s.hx) with
          h := hiByte (s.hx + 1), x := loByte (s.hx + 1), ccr := flags (s.readValue s.hx), pc := s.pc + 2 })

/-- R132, R134, R136: PSHA, PSHH and PSHX store at SP, then decrement SP; no flag changes. -/
def Obligations.PushResult : Prop :=
  encodedAs .psha [0x87] 2 ∧ encodedAs .pshh [0x8B] 2 ∧ encodedAs .pshx [0x89] 2 ∧
  ∀ s : State, s.writable s.sp →
    exec .psha s = .next { s.afterWrite s.sp s.a with sp := s.sp - 1, pc := s.pc + 1 } ∧
    exec .pshh s = .next { s.afterWrite s.sp s.h with sp := s.sp - 1, pc := s.pc + 1 } ∧
    exec .pshx s = .next { s.afterWrite s.sp s.x with sp := s.sp - 1, pc := s.pc + 1 }

/-- R133, R135, R137: PULA, PULH and PULX increment SP, then load from it; no flag changes. -/
def Obligations.PullResult : Prop :=
  encodedAs .pula [0x86] 2 ∧ encodedAs .pulh [0x8A] 2 ∧ encodedAs .pulx [0x88] 2 ∧
  ∀ s : State, s.readable (s.sp + 1) →
    let t := { s.afterRead (s.sp + 1) with sp := s.sp + 1, pc := s.pc + 1 }
    let v := s.readValue (s.sp + 1)
    exec .pula s = .next { t with a := v } ∧ exec .pulh s = .next { t with h := v } ∧
    exec .pulx s = .next { t with x := v }

/-- R150, R151: BSET n and BCLR n write back the byte read with bit n changed and every other bit as read; no flag
changes. -/
def Obligations.BitSetClear : Prop :=
  (∀ (n : Fin 8) dd, encodedAs (.ofBset n dd) [BitVec.ofNat 8 (0x10 + 2 * n), dd] 4 ∧
    encodedAs (.ofBclr n dd) [BitVec.ofNat 8 (0x11 + 2 * n), dd] 4) ∧
  ∀ (n : Fin 8) (dd : Byte) (s : State), s.writable (zext16 dd) →
    ∃ set clear : Byte,
      exec (.ofBset n dd) s = .next
        { (s.afterRead (zext16 dd)).afterWrite (zext16 dd) set with pc := s.pc + 2 } ∧
      exec (.ofBclr n dd) s = .next
        { (s.afterRead (zext16 dd)).afterWrite (zext16 dd) clear with pc := s.pc + 2 } ∧
      ∀ k : Fin 8,
        set.getLsbD k = (decide (k = n) || (s.readValue (zext16 dd)).getLsbD k) ∧
        clear.getLsbD k = (!decide (k = n) && (s.readValue (zext16 dd)).getLsbD k)

/-- R161, R163: ADD and ADC in all eight forms, with the arithmetic of R160. -/
def Obligations.AddResult : Prop :=
  (∀ o, encodedAs (.ofSrc .add o) (srcBytes 0xB o) (srcCycles o) ∧
    encodedAs (.ofSrc .adc o) (srcBytes 0x9 o) (srcCycles o)) ∧
  ∀ (o : Src) (s : State), srcReadable o s →
    let m := srcValue o s
    let result := fun (cin : Nat) =>
      let r := BitVec.ofNat 8 (s.a.toNat + m.toNat + cin)
      { srcAfter o s with
        a := r
        ccr :=
          { v := decide (s.a.getLsbD 7 = m.getLsbD 7) && decide (r.getLsbD 7 ≠ s.a.getLsbD 7)
            hf := decide (s.a.toNat % 16 + m.toNat % 16 + cin ≥ 16)
            i := s.ccr.i
            n := r.getLsbD 7
            z := decide (r = 0)
            c := decide (s.a.toNat + m.toNat + cin ≥ 256) }
        pc := s.npc (srcLen o) }
    exec (.ofSrc .add o) s = .next (result 0) ∧
    exec (.ofSrc .adc o) s = .next (result (if s.ccr.c then 1 else 0))

/-- R162, R164: SUB and SBC in all eight forms, with the arithmetic of R160; the half carry is not written. -/
def Obligations.SubResult : Prop :=
  (∀ o, encodedAs (.ofSrc .sub o) (srcBytes 0x0 o) (srcCycles o) ∧
    encodedAs (.ofSrc .sbc o) (srcBytes 0x2 o) (srcCycles o)) ∧
  ∀ (o : Src) (s : State), srcReadable o s →
    let m := srcValue o s
    let result := fun (bin : Byte) =>
      let r := s.a - m - bin
      { srcAfter o s with
        a := r
        ccr :=
          { v := decide (s.a.getLsbD 7 ≠ m.getLsbD 7) && decide (r.getLsbD 7 ≠ s.a.getLsbD 7)
            hf := s.ccr.hf
            i := s.ccr.i
            n := r.getLsbD 7
            z := decide (r = 0)
            c := decide (m.toNat + bin.toNat > s.a.toNat) }
        pc := s.npc (srcLen o) }
    exec (.ofSrc .sub o) s = .next (result 0) ∧
    exec (.ofSrc .sbc o) s = .next (result (if s.ccr.c then 1 else 0))

/-- R165: DAA by Table 5-2 where a row matches; V is a draw, and where no row matches A and C are draws too, with N and
Z from the drawn A (D17, log 13). -/
def Obligations.DaaResult : Prop :=
  encodedAs .daa [0x72] 2 ∧
  ∀ s : State,
    let table : List (Bool × Nat × Nat × Bool × Nat × Nat × Byte × Bool) :=
      [(false, 0, 9, false, 0, 9, 0x00, false), (false, 0, 8, false, 10, 15, 0x06, false),
        (false, 0, 9, true, 0, 3, 0x06, false), (false, 10, 15, false, 0, 9, 0x60, true),
        (false, 9, 15, false, 10, 15, 0x66, true), (false, 10, 15, true, 0, 3, 0x66, true),
        (true, 0, 2, false, 0, 9, 0x60, true), (true, 0, 2, false, 10, 15, 0x66, true),
        (true, 0, 3, true, 0, 3, 0x66, true)]
    let fits := fun (r : Bool × Nat × Nat × Bool × Nat × Nat × Byte × Bool) =>
      s.ccr.c = r.1 ∧ r.2.1 ≤ s.a.toNat / 16 ∧ s.a.toNat / 16 ≤ r.2.2.1 ∧ s.ccr.hf = r.2.2.2.1 ∧
        r.2.2.2.2.1 ≤ s.a.toNat % 16 ∧ s.a.toNat % 16 ≤ r.2.2.2.2.2.1
    let result := fun (a : Byte) (c v : Bool) (d : Nat) =>
      { s with
        a := a, ccr := { s.ccr with v := v, n := a.getLsbD 7, z := decide (a = 0), c := c }, draws := d,
        pc := s.pc + 1 }
    (∀ r ∈ table, fits r →
      ∃ v d, exec .daa s = .next (result (s.a + r.2.2.2.2.2.2.1) r.2.2.2.2.2.2.2 v d)) ∧
    ((∀ r ∈ table, ¬ fits r) → ∃ a c v d, exec .daa s = .next (result a c v d))

/-- R166: MUL puts the unsigned product in X:A and clears the half carry and C; H, V, I, N and Z do not change. -/
def Obligations.MulResult : Prop :=
  encodedAs .mul [0x42] 5 ∧
  ∀ s : State, ∃ hi lo : Byte, hi.toNat * 256 + lo.toNat = s.x.toNat * s.a.toNat ∧
    exec .mul s = .next
      { s with x := hi, a := lo, ccr := { s.ccr with hf := false, c := false }, pc := s.pc + 1 }

/-- R167: DIV leaves quotient and remainder in A and H; a divisor of 0 or a quotient over `$FF`, which is H at or above
X, sets C and leaves A, H and Z open (D16, log 13). X never changes and nothing traps. -/
def Obligations.DivResult : Prop :=
  encodedAs .div [0x52] 7 ∧
  ∀ s : State,
    (s.h.toNat < s.x.toNat → ∃ q r : Byte,
      q.toNat * s.x.toNat + r.toNat = s.h.toNat * 256 + s.a.toNat ∧ r.toNat < s.x.toNat ∧
      exec .div s = .next
        { s with a := q, h := r, ccr := { s.ccr with z := decide (q = 0), c := false }, pc := s.pc + 1 }) ∧
    (s.x.toNat ≤ s.h.toNat → ∃ q r z d, exec .div s = .next
      { s with a := q, h := r, ccr := { s.ccr with z := z, c := true }, draws := d, pc := s.pc + 1 })

/-- R180, R181, R182: DEC, INC and NEG in all six forms; DEC and INC leave C alone. -/
def Obligations.DecIncNegResult : Prop :=
  (∀ p, encodedAs (.ofPlace .dec p) (placeBytesOf 0xA p) (modifyCycles p) ∧
    encodedAs (.ofPlace .inc p) (placeBytesOf 0xC p) (modifyCycles p) ∧
    encodedAs (.ofPlace .neg p) (placeBytesOf 0x0 p) (modifyCycles p)) ∧
  ∀ (p : Place) (s : State), placeWritable p s →
    let m := placeValue p s
    let result := fun (r : Byte) (v c : Bool) =>
      { placePut p r (placeAfter p s) with
        ccr := { s.ccr with v := v, n := r.getLsbD 7, z := decide (r = 0), c := c }
        pc := s.npc (placeLen p) }
    exec (.ofPlace .dec p) s = .next (result (m - 1) (decide (m = 0x80)) s.ccr.c) ∧
    exec (.ofPlace .inc p) s = .next (result (m + 1) (decide (m = 0x7F)) s.ccr.c) ∧
    exec (.ofPlace .neg p) s = .next (result (-m) (decide (m = 0x80)) (decide (m ≠ 0)))

/-- R183, R184: AIS and AIX add a signed byte to SP and to H:X, modulo 2^16; no flag changes. -/
def Obligations.AisAixResult : Prop :=
  (∀ ii, encodedAs (.ais ii) [0xA7, ii] 2 ∧ encodedAs (.aix ii) [0xAF, ii] 2) ∧
  ∀ (ii : Byte) (s : State),
    (∃ r : Word, r.toInt = (s.sp.toInt + ii.toInt).bmod 65536 ∧
      exec (.ais ii) s = .next { s with sp := r, pc := s.pc + 2 }) ∧
    (∃ hi lo : Byte, (joinBytes hi lo).toInt = (s.hx.toInt + ii.toInt).bmod 65536 ∧
      exec (.aix ii) s = .next { s with h := hi, x := lo, pc := s.pc + 2 })

/-- R190 to R195: LSL (ASL), ASR, LSR, ROL and ROR in all six forms, bit by bit; C is the bit shifted out, and V is the
exclusive-OR of the resulting N and C. -/
def Obligations.ShiftResult : Prop :=
  (∀ p, encodedAs (.ofPlace .lsl p) (placeBytesOf 0x8 p) (modifyCycles p) ∧
    encodedAs (.ofPlace .asr p) (placeBytesOf 0x7 p) (modifyCycles p) ∧
    encodedAs (.ofPlace .lsr p) (placeBytesOf 0x4 p) (modifyCycles p) ∧
    encodedAs (.ofPlace .rol p) (placeBytesOf 0x9 p) (modifyCycles p) ∧
    encodedAs (.ofPlace .ror p) (placeBytesOf 0x6 p) (modifyCycles p)) ∧
  ∀ (p : Place) (s : State), placeWritable p s →
    let m := placeValue p s
    let left := fun (into : Bool) (r : Byte) =>
      r.getLsbD 0 = into ∧ ∀ k : Fin 7, r.getLsbD (k + 1) = m.getLsbD k
    let right := fun (into : Bool) (r : Byte) =>
      r.getLsbD 7 = into ∧ ∀ k : Fin 7, r.getLsbD k = m.getLsbD (k + 1)
    let answers := fun (i : Instr) (out : Bool) (shape : Byte → Prop) =>
      ∃ r, shape r ∧ exec i s = .next
        { placePut p r (placeAfter p s) with
          ccr := { s.ccr with v := (r.getLsbD 7 ^^ out), n := r.getLsbD 7, z := decide (r = 0), c := out }
          pc := s.npc (placeLen p) }
    answers (.ofPlace .lsl p) (m.getLsbD 7) (left false) ∧
    answers (.ofPlace .asr p) (m.getLsbD 0) (right (m.getLsbD 7)) ∧
    answers (.ofPlace .lsr p) (m.getLsbD 0) (right false) ∧
    answers (.ofPlace .rol p) (m.getLsbD 7) (left s.ccr.c) ∧
    answers (.ofPlace .ror p) (m.getLsbD 0) (right s.ccr.c)

/-- R200 to R203: AND, ORA, EOR in all eight forms and COM in all six; C is set by COM and kept by the others. -/
def Obligations.LogicResult : Prop :=
  (∀ o, encodedAs (.ofSrc .and o) (srcBytes 0x4 o) (srcCycles o) ∧
    encodedAs (.ofSrc .ora o) (srcBytes 0xA o) (srcCycles o) ∧
    encodedAs (.ofSrc .eor o) (srcBytes 0x8 o) (srcCycles o)) ∧
  (∀ p, encodedAs (.ofPlace .com p) (placeBytesOf 0x3 p) (modifyCycles p)) ∧
  (∀ (o : Src) (s : State), srcReadable o s →
    let m := srcValue o s
    let result := fun (r : Byte) =>
      { srcAfter o s with
        a := r
        ccr := { s.ccr with v := false, n := r.getLsbD 7, z := decide (r = 0) }
        pc := s.npc (srcLen o) }
    exec (.ofSrc .and o) s = .next (result (s.a &&& m)) ∧
    exec (.ofSrc .ora o) s = .next (result (s.a ||| m)) ∧
    exec (.ofSrc .eor o) s = .next (result (s.a ^^^ m))) ∧
  (∀ (p : Place) (s : State), placeWritable p s →
    let r := 0xFF - placeValue p s
    exec (.ofPlace .com p) s = .next
      { placePut p r (placeAfter p s) with
        ccr := { s.ccr with v := false, n := r.getLsbD 7, z := decide (r = 0), c := true }
        pc := s.npc (placeLen p) })

/-- R210, R211, R212: CMP, CPX and CPHX write V, N, Z and C of the difference, and no register. That CPHX reads the
lower address first is the spec's own choice (R53, D10; log 20), and that its C is the unsigned borrow is the resolution
of conflict C1. -/
def Obligations.CompareResult : Prop :=
  (∀ o, encodedAs (.ofSrc .cmp o) (srcBytes 0x1 o) (srcCycles o) ∧
    encodedAs (.ofSrc .cpx o) (srcBytes 0x3 o) (srcCycles o)) ∧
  (∀ jjkk, encodedAs (.cphxImm jjkk) [0x65, hiByte jjkk, loByte jjkk] 3) ∧
  (∀ dd, encodedAs (.cphxDir dd) [0x75, dd] 4) ∧
  (∀ (o : Src) (s : State), srcReadable o s →
    let m := srcValue o s
    let result := fun (r : Byte) =>
      { srcAfter o s with
        ccr :=
          { s.ccr with
            v := decide (r.getLsbD 7 ≠ m.getLsbD 7) && decide ((r - m).getLsbD 7 ≠ r.getLsbD 7)
            n := (r - m).getLsbD 7
            z := decide (r = m)
            c := decide (m.toNat > r.toNat) }
        pc := s.npc (srcLen o) }
    exec (.ofSrc .cmp o) s = .next (result s.a) ∧ exec (.ofSrc .cpx o) s = .next (result s.x)) ∧
  (∀ s : State,
    let flags := fun (m : Word) =>
      { s.ccr with
        v := decide (s.hx.getLsbD 15 ≠ m.getLsbD 15) && decide ((s.hx - m).getLsbD 15 ≠ s.hx.getLsbD 15)
        n := (s.hx - m).getLsbD 15
        z := decide (s.hx = m)
        c := decide (m.toNat > s.hx.toNat) }
    (∀ jjkk, exec (.cphxImm jjkk) s = .next { s with ccr := flags jjkk, pc := s.pc + 3 }) ∧
    (∀ dd, s.readable (zext16 dd) → s.readable (zext16 dd + 1) →
      let s1 := s.afterRead (zext16 dd)
      exec (.cphxDir dd) s = .next
        { s1.afterRead (zext16 dd + 1) with
          ccr := flags (joinBytes (s.readValue (zext16 dd)) (s1.readValue (zext16 dd + 1)))
          pc := s.pc + 2 }))

/-- R213, R214: BIT and TST write V, N and Z, and no register and no memory. -/
def Obligations.TestResult : Prop :=
  (∀ o, encodedAs (.ofSrc .bit o) (srcBytes 0x5 o) (srcCycles o)) ∧
  (∀ p, encodedAs (.ofPlace .tst p) (placeBytesOf 0xD p) (testCycles p)) ∧
  (∀ (o : Src) (s : State), srcReadable o s →
    let r := s.a &&& srcValue o s
    exec (.ofSrc .bit o) s = .next
      { srcAfter o s with
        ccr := { s.ccr with v := false, n := r.getLsbD 7, z := decide (r = 0) }, pc := s.npc (srcLen o) }) ∧
  (∀ (p : Place) (s : State), placeReadable p s →
    let r := placeValue p s
    exec (.ofPlace .tst p) s = .next
      { placeAfter p s with
        ccr := { s.ccr with v := false, n := r.getLsbD 7, z := decide (r = 0) }, pc := s.npc (placeLen p) })

/-- R215, R216: BRCLR n and BRSET n copy the tested bit to C and branch on it; nothing is written. -/
def Obligations.BitBranchResult : Prop :=
  (∀ (n : Fin 8) dd rr, encodedAs (.ofBrclr n dd rr) [BitVec.ofNat 8 (0x01 + 2 * n), dd, rr] 5 ∧
    encodedAs (.ofBrset n dd rr) [BitVec.ofNat 8 (0x00 + 2 * n), dd, rr] 5) ∧
  ∀ (n : Fin 8) (dd rr : Byte) (s : State), s.readable (zext16 dd) →
    let bit := (s.readValue (zext16 dd)).getLsbD n
    let result := fun (taken : Bool) =>
      { s.afterRead (zext16 dd) with
        ccr := { s.ccr with c := bit }
        pc := if taken then s.pc + 3 + rr.signExtend 16 else s.pc + 3 }
    exec (.ofBrclr n dd rr) s = .next (result (!bit)) ∧ exec (.ofBrset n dd rr) s = .next (result bit)

/-- R231 to R234, R236 to R249, R260 to R263: the test of each relative branch; only PC changes. -/
def Obligations.BranchResult : Prop :=
  ∀ (rr : Byte) (s : State),
    let goes := fun (i : Instr) (opcode : Byte) (taken : Bool) =>
      encodedAs i [opcode, rr] 3 ∧
      exec i s = .next { s with pc := if taken then s.pc + 2 + rr.signExtend 16 else s.pc + 2 }
    goes (.bra rr) 0x20 true ∧ goes (.brn rr) 0x21 false ∧
    goes (.bhi rr) 0x22 (!(s.ccr.c || s.ccr.z)) ∧ goes (.bls rr) 0x23 (s.ccr.c || s.ccr.z) ∧
    goes (.bcc rr) 0x24 (!s.ccr.c) ∧ goes (.bcs rr) 0x25 s.ccr.c ∧
    goes (.bne rr) 0x26 (!s.ccr.z) ∧ goes (.beq rr) 0x27 s.ccr.z ∧
    goes (.bhcc rr) 0x28 (!s.ccr.hf) ∧ goes (.bhcs rr) 0x29 s.ccr.hf ∧
    goes (.bpl rr) 0x2A (!s.ccr.n) ∧ goes (.bmi rr) 0x2B s.ccr.n ∧
    goes (.bmc rr) 0x2C (!s.ccr.i) ∧ goes (.bms rr) 0x2D s.ccr.i ∧
    goes (.bil rr) 0x2E (!s.irqPin) ∧ goes (.bih rr) 0x2F s.irqPin ∧
    goes (.bge rr) 0x90 (s.ccr.n == s.ccr.v) ∧ goes (.blt rr) 0x91 (s.ccr.n != s.ccr.v) ∧
    goes (.bgt rr) 0x92 (!s.ccr.z && s.ccr.n == s.ccr.v) ∧ goes (.ble rr) 0x93 (s.ccr.z || s.ccr.n != s.ccr.v)

/-- R235, R281: BSR and JSR push the address of the next instruction, low byte first, and go to their target. -/
def Obligations.CallResult : Prop :=
  (∀ rr, encodedAs (.bsr rr) [0xAD, rr] 4) ∧
  (∀ j, encodedAs (.ofJsr j) (srcBytes 0xD (.mem (jumpEa j)))
    (match j with
      | .dir _ => 4
      | .ext _ => 5
      | .ix2 _ => 6
      | .ix1 _ => 5
      | .ix => 4)) ∧
  ∀ s : State, s.writable s.sp → s.writable (s.sp - 1) →
    let calls := fun (ret target : Word) =>
      { (s.afterWrite s.sp (loByte ret)).afterWrite (s.sp - 1) (hiByte ret) with sp := s.sp - 2, pc := target }
    (∀ rr : Byte, exec (.bsr rr) s = .next (calls (s.pc + 2) (s.pc + 2 + rr.signExtend 16))) ∧
    (∀ j, exec (.ofJsr j) s = .next (calls (s.npc (eaLen (jumpEa j))) (eaOf (jumpEa j) s)))

/-- R280, R282: JMP goes to its effective address; RTS pulls PCH and then PCL. The 3 cycles of `JMP ,X` are the spec's
reading of the printed table (R280, conflict C7; log 22). -/
def Obligations.JmpRtsResult : Prop :=
  (∀ j, encodedAs (.ofJmp j) (srcBytes 0xC (.mem (jumpEa j)))
    (match j with
      | .dir _ => 2
      | .ext _ => 3
      | .ix2 _ => 4
      | .ix1 _ => 3
      | .ix => 3)) ∧
  encodedAs .rts [0x81] 4 ∧
  (∀ (j : JumpForm) (s : State), exec (.ofJmp j) s = .next { s with pc := eaOf (jumpEa j) s }) ∧
  (∀ s : State, s.readable (s.sp + 1) → s.readable (s.sp + 2) →
    let s1 := s.afterRead (s.sp + 1)
    exec .rts s = .next
      { s1.afterRead (s.sp + 2) with
        sp := s.sp + 2, pc := joinBytes (s.readValue (s.sp + 1)) (s1.readValue (s.sp + 2)) })

/-- R264: CBEQ, CBEQA and CBEQX; no flag changes, and the X+ forms increment H:X whether or not they branch. The
offsets of the IX1+ and SP1 forms are unsigned by the spec's own choice (R93, R94, D4; log 21), and the length 3 of the
IX1+ form is the resolution of conflict C9. -/
def Obligations.CbeqResult : Prop :=
  (∀ b rr, encodedAs (.cbeqDir b rr) [0x31, b, rr] 5 ∧ encodedAs (.cbeqa b rr) [0x41, b, rr] 4 ∧
    encodedAs (.cbeqx b rr) [0x51, b, rr] 4 ∧ encodedAs (.cbeqIx1p b rr) [0x61, b, rr] 5 ∧
    encodedAs (.cbeqIxp rr) [0x71, rr] 4 ∧ encodedAs (.cbeqSp1 b rr) [0x9E, 0x61, b, rr] 6) ∧
  ∀ (b rr : Byte) (s : State),
    let goto := fun (len : Word) (m : Byte) =>
      if s.a = m then s.pc + len + rr.signExtend 16 else s.pc + len
    (s.readable (zext16 b) → exec (.cbeqDir b rr) s = .next
      { s.afterRead (zext16 b) with pc := goto 3 (s.readValue (zext16 b)) }) ∧
    exec (.cbeqa b rr) s = .next { s with pc := goto 3 b } ∧
    exec (.cbeqx b rr) s = .next
      { s with pc := if s.x = b then s.pc + 3 + rr.signExtend 16 else s.pc + 3 } ∧
    (s.readable (s.hx + zext16 b) → exec (.cbeqIx1p b rr) s = .next
      { s.afterRead (s.hx + zext16 b) with
        h := hiByte (s.hx + 1), x := loByte (s.hx + 1), pc := goto 3 (s.readValue (s.hx + zext16 b)) }) ∧
    (s.readable s.hx → exec (.cbeqIxp rr) s = .next
      { s.afterRead s.hx with
        h := hiByte (s.hx + 1), x := loByte (s.hx + 1), pc := goto 2 (s.readValue s.hx) }) ∧
    (s.readable (s.sp + zext16 b) → exec (.cbeqSp1 b rr) s = .next
      { s.afterRead (s.sp + zext16 b) with pc := goto 4 (s.readValue (s.sp + zext16 b)) })

/-- R265: DBNZ in all six forms writes the place less one and branches unless that is 0; no flag changes. -/
def Obligations.DbnzResult : Prop :=
  (∀ p rr, encodedAs (.ofDbnz p rr) (placeBytesOf 0xB p ++ [rr])
    (match p with
      | .dir _ => 5
      | .a => 3
      | .x => 3
      | .ix1 _ => 5
      | .ix => 4
      | .sp1 _ => 6)) ∧
  ∀ (p : Place) (rr : Byte) (s : State), placeWritable p s →
    let r := placeValue p s - 1
    exec (.ofDbnz p rr) s = .next
      { placePut p r (placeAfter p s) with
        pc := if r = 0 then s.npc (placeLen p + 1) else s.npc (placeLen p + 1) + rr.signExtend 16 }

/-- R283 to R286, R317: SEC, CLC, CLI and SEI write their one flag; SEI opens the late window exactly if it found I
clear, and no other of these touches it. -/
def Obligations.FlagInstructions : Prop :=
  encodedAs .sec [0x99] 1 ∧ encodedAs .clc [0x98] 1 ∧ encodedAs .cli [0x9A] 2 ∧ encodedAs .sei [0x9B] 2 ∧
  ∀ s : State,
    exec .sec s = .next { s with ccr := { s.ccr with c := true }, pc := s.pc + 1 } ∧
    exec .clc s = .next { s with ccr := { s.ccr with c := false }, pc := s.pc + 1 } ∧
    exec .cli s = .next { s with ccr := { s.ccr with i := false }, pc := s.pc + 1 } ∧
    exec .sei s = .next
      { s with ccr := { s.ccr with i := true }, seiWindow := decide (s.ccr.i = false), pc := s.pc + 1 }

/-- R287, R310: SWI stacks PCL, PCH, X, A and the CCR with the old I, sets I and goes to the handler at
`$FFFC:$FFFD`, whatever I is; H is not stacked. -/
def Obligations.SwiResult : Prop :=
  encodedAs .swi [0x83] 9 ∧
  ∀ s : State, (∀ x ∈ accesses .swi s, x.allowed s = true) →
    ∃ t, exec .swi s = .next t ∧ t.sp = s.sp - 5 ∧ t.a = s.a ∧ t.x = s.x ∧ t.h = s.h ∧
      t.ccr = { s.ccr with i := true } ∧ t.run = s.run ∧ t.irqPin = s.irqPin ∧ t.pending = s.pending ∧
      (s.kindAt 0xFFFC ≠ .io → s.kindAt 0xFFFD ≠ .io → t.pc = joinBytes (t.peek 0xFFFC) (t.peek 0xFFFD)) ∧
      (s.kindAt s.sp = .ram → t.peek s.sp = loByte (s.pc + 1)) ∧
      (s.kindAt (s.sp - 1) = .ram → t.peek (s.sp - 1) = hiByte (s.pc + 1)) ∧
      (s.kindAt (s.sp - 2) = .ram → t.peek (s.sp - 2) = s.x) ∧
      (s.kindAt (s.sp - 3) = .ram → t.peek (s.sp - 3) = s.a) ∧
      (s.kindAt (s.sp - 4) = .ram → t.peek (s.sp - 4) = s.ccr.byte) ∧
      (∀ b, b ∉ [s.sp, s.sp - 1, s.sp - 2, s.sp - 3, s.sp - 4] → t.peek b = s.peek b)

/-- R288, R320: RTI pulls the CCR, A, X, PCH and PCL in that order; H and memory do not change. -/
def Obligations.RtiResult : Prop :=
  encodedAs .rti [0x80] 7 ∧
  ∀ s : State, (∀ x ∈ accesses .rti s, x.allowed s = true) →
    ∃ t, exec .rti s = .next t ∧ t.sp = s.sp + 5 ∧ t.h = s.h ∧ t.mem = s.mem ∧ t.run = s.run ∧
      t.irqPin = s.irqPin ∧ t.pending = s.pending ∧
      (s.kindAt (s.sp + 1) ≠ .io → t.ccr = Ccr.ofByte (s.peek (s.sp + 1))) ∧
      (s.kindAt (s.sp + 2) ≠ .io → t.a = s.peek (s.sp + 2)) ∧
      (s.kindAt (s.sp + 3) ≠ .io → t.x = s.peek (s.sp + 3)) ∧
      (s.kindAt (s.sp + 4) ≠ .io → s.kindAt (s.sp + 5) ≠ .io →
        t.pc = joinBytes (s.peek (s.sp + 4)) (s.peek (s.sp + 5)))

/-- R289, R290, R295, R296: RSP, NOP, TXS and TSX; no flag and no memory changes. -/
def Obligations.RspNopTxsTsxResult : Prop :=
  encodedAs .rsp [0x9C] 1 ∧ encodedAs .nop [0x9D] 1 ∧ encodedAs .txs [0x94] 2 ∧ encodedAs .tsx [0x95] 2 ∧
  ∀ s : State,
    exec .rsp s = .next { s with sp := (s.sp &&& 0xFF00) ||| 0x00FF, pc := s.pc + 1 } ∧
    exec .nop s = .next { s with pc := s.pc + 1 } ∧
    exec .txs s = .next { s with sp := s.hx - 1, pc := s.pc + 1 } ∧
    exec .tsx s = .next { s with h := hiByte (s.sp + 1), x := loByte (s.sp + 1), pc := s.pc + 1 }

/-- R291, R292: WAIT and STOP clear I and suspend the machine at the next instruction. -/
def Obligations.WaitStopResult : Prop :=
  encodedAs .wait [0x8F] 1 ∧ encodedAs .stop [0x8E] 1 ∧
  ∀ s : State,
    exec .wait s = .next { s with ccr := { s.ccr with i := false }, run := .waiting, pc := s.pc + 1 } ∧
    exec .stop s = .next { s with ccr := { s.ccr with i := false }, run := .stopped, pc := s.pc + 1 }

/-- R293, R294: TAP loads the six flags from A, TPA reads the CCR with bits 6 and 5 as 1. That TAP loses bits 6 and 5 and
that they read 1 is the spec's own choice (R26, D19; log 23). -/
def Obligations.TapTpaResult : Prop :=
  encodedAs .tap [0x84] 2 ∧ encodedAs .tpa [0x85] 1 ∧
  ∀ s : State,
    exec .tap s = .next
      { s with
        ccr :=
          { v := s.a.getLsbD 7, hf := s.a.getLsbD 4, i := s.a.getLsbD 3, n := s.a.getLsbD 2, z := s.a.getLsbD 1,
            c := s.a.getLsbD 0 }
        pc := s.pc + 1 } ∧
    ∃ r : Byte, exec .tpa s = .next { s with a := r, pc := s.pc + 1 } ∧
      r.getLsbD 7 = s.ccr.v ∧ r.getLsbD 6 = true ∧ r.getLsbD 5 = true ∧ r.getLsbD 4 = s.ccr.hf ∧
      r.getLsbD 3 = s.ccr.i ∧ r.getLsbD 2 = s.ccr.n ∧ r.getLsbD 1 = s.ccr.z ∧ r.getLsbD 0 = s.ccr.c

/-! ### All instructions at once -/

/-- R54, R59, R120 (d): an instruction completes exactly if `MEMMAP` allows each of its data accesses; the first that is
not allowed is the fault it ends in, and no instruction is refused. -/
def Obligations.CompletesIfAccessesAllowed : Prop :=
  ∀ (i : Instr) (s : State),
    match (accesses i s).find? (fun x => !x.allowed s) with
    | none => ∃ t, exec i s = .next t
    | some x => exec i s = .fault (x.faultOf s)

/-- R53, R54, R60, R66: the accesses that an instruction makes to IO addresses are those of its list, in the order of
the list. -/
def Obligations.IoAccessesInOrder : Prop :=
  ∀ (i : Instr) (s t : State), exec i s = .next t →
    t.ioTrace.map IoAccess.access = ((accesses i s).filter (fun x => x.toIo s)).reverse
      ++ s.ioTrace.map IoAccess.access

/-- R54, R58: every byte of memory is unchanged except those the instruction stores to; a form that stores nothing
changes none. -/
def Obligations.MemoryFrame : Prop :=
  ∀ (i : Instr) (s t : State), exec i s = .next t →
    (∀ b, b ∉ storedAddrs i s → t.peek b = s.peek b) ∧ (storedAddrs i s = [] → t.mem = s.mem)

/-- R21, R22, R23, R25, R33: each flag is kept, cleared or set as the flag table says, each register the instruction may
not write is kept, and PC goes to the next instruction unless it is a control transfer. -/
def Obligations.FlagAndRegisterFrame : Prop :=
  ∀ (i : Instr) (s t : State), exec i s = .next t →
    (profile i).flags.allows s.ccr t.ccr ∧ (profile i).regs.allows s t ∧
    ((profile i).transfer = false → t.pc = s.npc (encode i).length)

/-- R34, R35, R36, R39, R333: no instruction changes the pin, the requests, the environment or the launch; only WAIT and
STOP change RUN, and only SEI opens the late window; no step changes the launch. At a boundary the pin takes the level
the environment gives, its requests are added and then the withdrawn ones removed, and RESET is as it says; a silent
environment changes nothing (R333 (a), (b), D24; the queue is the model's own, log 15). -/
def Obligations.EnvironmentFrame : Prop :=
  (∀ (i : Instr) (s t : State), exec i s = .next t →
    t.irqPin = s.irqPin ∧ t.pending = s.pending ∧ t.inputs = s.inputs ∧ t.params = s.params ∧
    (i ≠ .wait → i ≠ .stop → t.run = s.run) ∧ (i ≠ .sei → t.seiWindow = s.seiWindow)) ∧
  (∀ s t : State, step s = .next t → t.params = s.params ∧ t.inputs = s.inputs.tail) ∧
  (∀ s : State, s.inputs = [] → takeInput s = (false, s)) ∧
  (∀ (s : State) (e : EnvInput) (rest : List EnvInput), s.inputs = e :: rest → ∃ pending : List IntSource,
    takeInput s = (e.reset, { s with irqPin := e.irqPin, pending := pending, inputs := rest }) ∧
    (∀ p, p ∈ pending ↔ (p ∈ e.raised ∨ p ∈ s.pending) ∧ p ∉ e.withdrawn) ∧
    (s.pending.Nodup → pending.Nodup))

/-- The invariant is kept by every step from every state (log 1: the form of memory is the model's own). -/
def Obligations.InvariantKept : Prop :=
  ∀ s t : State, s.Inv → step s = .next t → t.Inv

/-- The invariant holds after reset, and so does what R36 and R26 say of it: RUNNING, the CCR with bits 6 and 5 set. -/
def Obligations.InvariantAtReset : Prop :=
  State.reset.Inv ∧ State.reset.run = .running ∧ State.reset.ccr.byte &&& 0x60 = 0x60 ∧ State.reset.mem = []

/-! ### Interrupts, low power, reset -/

/-- R316, R318, R319: the request of the highest priority is the first source of the launch's list that is pending, with
its vector, and there is none exactly if no listed source is pending (D15; log 15, 25). At a boundary with I clear and a
request, the interrupt of the highest priority is taken before the instruction at PC: the frame, I, the handler's
address, RUN, and the request withdrawn (D13, D14; log 16). -/
def Obligations.InterruptEntry : Prop :=
  (∀ (s : State) (src : IntSource) (vector : Word), highest s = some (src, vector) ↔
    src ∈ s.pending ∧ ∃ before after, s.params.sources = before ++ (src, vector) :: after ∧
      ∀ q ∈ before, q.1 ∉ s.pending) ∧
  (∀ s : State, highest s = none ↔ ∀ q ∈ s.params.sources, q.1 ∉ s.pending) ∧
  ∀ (s s1 : State) (src : IntSource) (vector : Word), takeInput s = (false, s1) → s1.run = .running →
    s1.ccr.i = false → highest s1 = some (src, vector) →
    (∀ k : Fin 5, s1.writable (s1.sp - BitVec.ofNat 16 k)) → s1.readable vector → s1.readable (vector + 1) →
    ∃ t, step s = .next t ∧ t.sp = s1.sp - 5 ∧ t.a = s1.a ∧ t.x = s1.x ∧ t.h = s1.h ∧
      t.ccr = { s1.ccr with i := true } ∧ t.run = .running ∧
      t.pending = s1.pending.filter (fun p => p != src) ∧ t.irqPin = s1.irqPin ∧
      (s1.kindAt vector ≠ .io → s1.kindAt (vector + 1) ≠ .io →
        t.pc = joinBytes (t.peek vector) (t.peek (vector + 1))) ∧
      (s1.kindAt s1.sp = .ram → t.peek s1.sp = loByte s1.pc) ∧
      (s1.kindAt (s1.sp - 1) = .ram → t.peek (s1.sp - 1) = hiByte s1.pc) ∧
      (s1.kindAt (s1.sp - 2) = .ram → t.peek (s1.sp - 2) = s1.x) ∧
      (s1.kindAt (s1.sp - 3) = .ram → t.peek (s1.sp - 3) = s1.a) ∧
      (s1.kindAt (s1.sp - 4) = .ram → t.peek (s1.sp - 4) = s1.ccr.byte) ∧
      (∀ b, b ∉ [s1.sp, s1.sp - 1, s1.sp - 2, s1.sp - 3, s1.sp - 4] → t.peek b = s1.peek b)

/-- R316, R317: with I set and the late window closed the instruction at PC is executed; with the window open and a
request, either that or the interrupt of the highest priority, and no boundary finds the window open twice. -/
def Obligations.MaskAndSeiWindow : Prop :=
  ∀ s s1 : State, takeInput s = (false, s1) → s1.run = .running → s1.ccr.i = true →
    (s1.seiWindow = false → step s = executeNext s1) ∧
    (∀ p, highest s1 = some p → s1.seiWindow = true → ∃ d,
      step s = executeNext { s1 with seiWindow := false, draws := d } ∨
      step s = finish (takeInterrupt p.1 p.2 { s1 with seiWindow := false, draws := d })) ∧
    (highest s1 = none → step s = executeNext { s1 with seiWindow := false })

/-- R330, R331: WAITING and STOPPED without a request that ends them stay as they are, whatever the pin; WAITING ends by
the interrupt of any source, STOPPED by the IRQ pin's alone. -/
def Obligations.WaitingAndStopped : Prop :=
  ∀ s s1 : State, takeInput s = (false, s1) → s1.ccr.i = false → s1.seiWindow = false →
    (s1.run = .waiting → highest s1 = none → step s = .next s1) ∧
    (∀ p, s1.run = .waiting → highest s1 = some p → step s = finish (takeInterrupt p.1 p.2 s1)) ∧
    (s1.run = .stopped → IntSource.irq ∉ s1.pending → step s = .next s1) ∧
    (∀ v, s1.run = .stopped → IntSource.irq ∈ s1.pending →
      s1.params.sources.find? (fun p => p.1 == .irq) = some (.irq, v) →
      step s = finish (takeInterrupt .irq v s1))

/-- R350, R36, R333 (a): RESET asserted at any boundary, in any run state: SP, H and the parameters that the launch
gives are loaded, PC comes from the reset vector, RUN is RUNNING, and memory does not change. -/
def Obligations.ResetStep : Prop :=
  ∀ s s1 : State, takeInput s = (true, s1) → s.readable s.params.resetVector →
    s.readable (s.params.resetVector + 1) →
    ∃ t, step s = .next t ∧ t.sp = s.params.resetSp ∧ t.h = s.params.resetH ∧ t.run = .running ∧
      t.seiWindow = false ∧ t.mem = s.mem ∧
      (∀ b, s.params.resetA = some b → t.a = b) ∧ (∀ b, s.params.resetX = some b → t.x = b) ∧
      (∀ b, s.params.resetCcr.v = some b → t.ccr.v = b) ∧ (∀ b, s.params.resetCcr.hf = some b → t.ccr.hf = b) ∧
      (∀ b, s.params.resetCcr.i = some b → t.ccr.i = b) ∧ (∀ b, s.params.resetCcr.n = some b → t.ccr.n = b) ∧
      (∀ b, s.params.resetCcr.z = some b → t.ccr.z = b) ∧ (∀ b, s.params.resetCcr.c = some b → t.ccr.c = b) ∧
      (s.kindAt s.params.resetVector ≠ .io → s.kindAt (s.params.resetVector + 1) ≠ .io →
        t.pc = joinBytes (s.peek s.params.resetVector) (s.peek (s.params.resetVector + 1)))

/-! ### Sequences -/

/-- R287, R288, R318, R320: with the stack in RAM, RTI undoes SWI and hardware interrupt entry: A, X, H, SP and every
flag are as before, and PC is the return address. -/
def Obligations.ReturnUndoesEntry : Prop :=
  ∀ s t : State, (∀ k : Fin 5, s.kindAt (s.sp - BitVec.ofNat 16 k) = .ram) →
    (exec .swi s = .next t → ∃ u, exec .rti t = .next u ∧ u.a = s.a ∧ u.x = s.x ∧ u.h = s.h ∧ u.sp = s.sp ∧
      u.ccr = s.ccr ∧ u.pc = s.pc + 1) ∧
    (∀ src vector, takeInterrupt src vector s = .ok t → ∃ u, exec .rti t = .next u ∧ u.a = s.a ∧ u.x = s.x ∧
      u.h = s.h ∧ u.sp = s.sp ∧ u.ccr = s.ccr ∧ u.pc = s.pc)

/-- R250: after CMP, CPX, SUB or CPHX, in every form, each conditional branch is taken exactly if its relation holds
between the register and the operand, as signed or as unsigned numbers; after SBC, between the register and the operand
plus the old C, where equal means that the result is 0. -/
def Obligations.CompareThenBranch : Prop :=
  let decides := fun (t : State) (ult slt eq : Bool) => ∀ rr : Byte,
    let goes := fun (i : Instr) (taken : Bool) => exec i t = .next { t with pc := t.branchTarget 2 rr taken }
    goes (.bhi rr) (!ult && !eq) ∧ goes (.bls rr) (ult || eq) ∧ goes (.bcc rr) (!ult) ∧ goes (.bcs rr) ult ∧
    goes (.beq rr) eq ∧ goes (.bne rr) (!eq) ∧
    goes (.bgt rr) (!slt && !eq) ∧ goes (.ble rr) (slt || eq) ∧ goes (.bge rr) (!slt) ∧ goes (.blt rr) slt
  (∀ (o : Src) (s t : State),
    let m := srcValue o s
    (exec (.ofSrc .cmp o) s = .next t → decides t (s.a.ult m) (s.a.slt m) (s.a == m)) ∧
    (exec (.ofSrc .sub o) s = .next t → decides t (s.a.ult m) (s.a.slt m) (s.a == m)) ∧
    (exec (.ofSrc .cpx o) s = .next t → decides t (s.x.ult m) (s.x.slt m) (s.x == m)) ∧
    (exec (.ofSrc .sbc o) s = .next t → decides t (decide (s.a.toNat < m.toNat + bitNat s.ccr.c))
      (decide (s.a.toInt < m.toInt + bitNat s.ccr.c)) (t.a == 0))) ∧
  (∀ (m : Word) (s t : State), exec (.cphxImm m) s = .next t →
    decides t (s.hx.ult m) (s.hx.slt m) (s.hx == m)) ∧
  (∀ (dd : Byte) (s t : State), exec (.cphxDir dd) s = .next t →
    let m := joinBytes (s.readValue (zext16 dd)) ((s.afterRead (zext16 dd)).readValue (zext16 dd + 1))
    decides t (s.hx.ult m) (s.hx.slt m) (s.hx == m))

/-- R161, R163, R165: ADD or ADC of two BCD numbers, in every form, and DAA give the BCD sum and its carry. -/
def Obligations.BcdAddition : Prop :=
  let bcd := fun (n : Nat) => BitVec.ofNat 8 (n / 10 * 16 + n % 10)
  ∀ (x y : Nat) (o : Src) (s t u : State), x < 100 → y < 100 → s.a = bcd x → srcValue o s = bcd y →
    exec .daa t = .next u →
    (exec (.ofSrc .add o) s = .next t → u.a = bcd ((x + y) % 100) ∧ u.ccr.c = decide (100 ≤ x + y)) ∧
    (exec (.ofSrc .adc o) s = .next t →
      u.a = bcd ((x + y + bitNat s.ccr.c) % 100) ∧ u.ccr.c = decide (100 ≤ x + y + bitNat s.ccr.c))

/-- R235, R281, R282: with the stack in RAM, RTS after BSR or JSR goes to the instruction after the call and restores
SP; no flag and no other register changes. -/
def Obligations.ReturnUndoesCall : Prop :=
  ∀ s t : State, s.kindAt s.sp = .ram → s.kindAt (s.sp - 1) = .ram →
    let back := fun (ret : Word) => exec .rts t = .next { s with pc := ret, mem := t.mem }
    (∀ rr, exec (.bsr rr) s = .next t → back (s.pc + 2)) ∧
    (∀ j, exec (.ofJsr j) s = .next t → back (s.npc (eaLen (jumpEa j))))
end

