-- ==== Sys2Proof/Laws/State.lean ====
section
/-! SUPPORT. What every named update of State does to every field, and what the reads of State see through it. Each
lemma about a field is true by definition, so no later proof unfolds a record update. -/

namespace Sys2Proof.Machine

/-! ### `afterRead` -/

@[simp] theorem State.afterRead_a (s : State) (a : Word) : (s.afterRead a).a = s.a := rfl
@[simp] theorem State.afterRead_x (s : State) (a : Word) : (s.afterRead a).x = s.x := rfl
@[simp] theorem State.afterRead_h (s : State) (a : Word) : (s.afterRead a).h = s.h := rfl
@[simp] theorem State.afterRead_sp (s : State) (a : Word) : (s.afterRead a).sp = s.sp := rfl
@[simp] theorem State.afterRead_pc (s : State) (a : Word) : (s.afterRead a).pc = s.pc := rfl
@[simp] theorem State.afterRead_ccr (s : State) (a : Word) : (s.afterRead a).ccr = s.ccr := rfl
@[simp] theorem State.afterRead_irqPin (s : State) (a : Word) : (s.afterRead a).irqPin = s.irqPin := rfl
@[simp] theorem State.afterRead_pending (s : State) (a : Word) : (s.afterRead a).pending = s.pending := rfl
@[simp] theorem State.afterRead_run (s : State) (a : Word) : (s.afterRead a).run = s.run := rfl
@[simp] theorem State.afterRead_seiWindow (s : State) (a : Word) : (s.afterRead a).seiWindow = s.seiWindow := rfl
@[simp] theorem State.afterRead_mem (s : State) (a : Word) : (s.afterRead a).mem = s.mem := rfl
@[simp] theorem State.afterRead_params (s : State) (a : Word) : (s.afterRead a).params = s.params := rfl
@[simp] theorem State.afterRead_draws (s : State) (a : Word) : (s.afterRead a).draws = if s.kindAt a = .io then s.draws + 1 else s.draws := rfl
@[simp] theorem State.afterRead_ioTrace (s : State) (a : Word) : (s.afterRead a).ioTrace = if s.kindAt a = .io then .read a (Config.ioAnswer s.draws a) :: s.ioTrace else s.ioTrace := rfl
@[simp] theorem State.afterRead_inputs (s : State) (a : Word) : (s.afterRead a).inputs = s.inputs := rfl

/-! ### `afterWrite` -/

@[simp] theorem State.afterWrite_a (s : State) (a : Word) (v : Byte) : (s.afterWrite a v).a = s.a := rfl
@[simp] theorem State.afterWrite_x (s : State) (a : Word) (v : Byte) : (s.afterWrite a v).x = s.x := rfl
@[simp] theorem State.afterWrite_h (s : State) (a : Word) (v : Byte) : (s.afterWrite a v).h = s.h := rfl
@[simp] theorem State.afterWrite_sp (s : State) (a : Word) (v : Byte) : (s.afterWrite a v).sp = s.sp := rfl
@[simp] theorem State.afterWrite_pc (s : State) (a : Word) (v : Byte) : (s.afterWrite a v).pc = s.pc := rfl
@[simp] theorem State.afterWrite_ccr (s : State) (a : Word) (v : Byte) : (s.afterWrite a v).ccr = s.ccr := rfl
@[simp] theorem State.afterWrite_irqPin (s : State) (a : Word) (v : Byte) : (s.afterWrite a v).irqPin = s.irqPin := rfl
@[simp] theorem State.afterWrite_pending (s : State) (a : Word) (v : Byte) : (s.afterWrite a v).pending = s.pending := rfl
@[simp] theorem State.afterWrite_run (s : State) (a : Word) (v : Byte) : (s.afterWrite a v).run = s.run := rfl
@[simp] theorem State.afterWrite_seiWindow (s : State) (a : Word) (v : Byte) : (s.afterWrite a v).seiWindow = s.seiWindow := rfl
@[simp] theorem State.afterWrite_mem (s : State) (a : Word) (v : Byte) : (s.afterWrite a v).mem = if s.kindAt a = .io then s.mem else s.mem.write a.toNat v := rfl
@[simp] theorem State.afterWrite_params (s : State) (a : Word) (v : Byte) : (s.afterWrite a v).params = s.params := rfl
@[simp] theorem State.afterWrite_draws (s : State) (a : Word) (v : Byte) : (s.afterWrite a v).draws = s.draws := rfl
@[simp] theorem State.afterWrite_ioTrace (s : State) (a : Word) (v : Byte) : (s.afterWrite a v).ioTrace = if s.kindAt a = .io then .write a v :: s.ioTrace else s.ioTrace := rfl
@[simp] theorem State.afterWrite_inputs (s : State) (a : Word) (v : Byte) : (s.afterWrite a v).inputs = s.inputs := rfl

/-! ### `pushed` -/

@[simp] theorem State.pushed_a (s : State) (v : Byte) : (s.pushed v).a = s.a := rfl
@[simp] theorem State.pushed_x (s : State) (v : Byte) : (s.pushed v).x = s.x := rfl
@[simp] theorem State.pushed_h (s : State) (v : Byte) : (s.pushed v).h = s.h := rfl
@[simp] theorem State.pushed_sp (s : State) (v : Byte) : (s.pushed v).sp = s.sp - 1 := rfl
@[simp] theorem State.pushed_pc (s : State) (v : Byte) : (s.pushed v).pc = s.pc := rfl
@[simp] theorem State.pushed_ccr (s : State) (v : Byte) : (s.pushed v).ccr = s.ccr := rfl
@[simp] theorem State.pushed_irqPin (s : State) (v : Byte) : (s.pushed v).irqPin = s.irqPin := rfl
@[simp] theorem State.pushed_pending (s : State) (v : Byte) : (s.pushed v).pending = s.pending := rfl
@[simp] theorem State.pushed_run (s : State) (v : Byte) : (s.pushed v).run = s.run := rfl
@[simp] theorem State.pushed_seiWindow (s : State) (v : Byte) : (s.pushed v).seiWindow = s.seiWindow := rfl
@[simp] theorem State.pushed_mem (s : State) (v : Byte) : (s.pushed v).mem = (s.afterWrite s.sp v).mem := rfl
@[simp] theorem State.pushed_params (s : State) (v : Byte) : (s.pushed v).params = s.params := rfl
@[simp] theorem State.pushed_draws (s : State) (v : Byte) : (s.pushed v).draws = s.draws := rfl
@[simp] theorem State.pushed_ioTrace (s : State) (v : Byte) : (s.pushed v).ioTrace = (s.afterWrite s.sp v).ioTrace := rfl
@[simp] theorem State.pushed_inputs (s : State) (v : Byte) : (s.pushed v).inputs = s.inputs := rfl

/-! ### `setHx` -/

@[simp] theorem State.setHx_a (s : State) (v : Word) : (s.setHx v).a = s.a := rfl
@[simp] theorem State.setHx_x (s : State) (v : Word) : (s.setHx v).x = loByte v := rfl
@[simp] theorem State.setHx_h (s : State) (v : Word) : (s.setHx v).h = hiByte v := rfl
@[simp] theorem State.setHx_sp (s : State) (v : Word) : (s.setHx v).sp = s.sp := rfl
@[simp] theorem State.setHx_pc (s : State) (v : Word) : (s.setHx v).pc = s.pc := rfl
@[simp] theorem State.setHx_ccr (s : State) (v : Word) : (s.setHx v).ccr = s.ccr := rfl
@[simp] theorem State.setHx_irqPin (s : State) (v : Word) : (s.setHx v).irqPin = s.irqPin := rfl
@[simp] theorem State.setHx_pending (s : State) (v : Word) : (s.setHx v).pending = s.pending := rfl
@[simp] theorem State.setHx_run (s : State) (v : Word) : (s.setHx v).run = s.run := rfl
@[simp] theorem State.setHx_seiWindow (s : State) (v : Word) : (s.setHx v).seiWindow = s.seiWindow := rfl
@[simp] theorem State.setHx_mem (s : State) (v : Word) : (s.setHx v).mem = s.mem := rfl
@[simp] theorem State.setHx_params (s : State) (v : Word) : (s.setHx v).params = s.params := rfl
@[simp] theorem State.setHx_draws (s : State) (v : Word) : (s.setHx v).draws = s.draws := rfl
@[simp] theorem State.setHx_ioTrace (s : State) (v : Word) : (s.setHx v).ioTrace = s.ioTrace := rfl
@[simp] theorem State.setHx_inputs (s : State) (v : Word) : (s.setHx v).inputs = s.inputs := rfl

/-! ### `bumpHx` -/

@[simp] theorem State.bumpHx_a (s : State) : (s.bumpHx).a = s.a := rfl
@[simp] theorem State.bumpHx_x (s : State) : (s.bumpHx).x = loByte (s.hx + 1) := rfl
@[simp] theorem State.bumpHx_h (s : State) : (s.bumpHx).h = hiByte (s.hx + 1) := rfl
@[simp] theorem State.bumpHx_sp (s : State) : (s.bumpHx).sp = s.sp := rfl
@[simp] theorem State.bumpHx_pc (s : State) : (s.bumpHx).pc = s.pc := rfl
@[simp] theorem State.bumpHx_ccr (s : State) : (s.bumpHx).ccr = s.ccr := rfl
@[simp] theorem State.bumpHx_irqPin (s : State) : (s.bumpHx).irqPin = s.irqPin := rfl
@[simp] theorem State.bumpHx_pending (s : State) : (s.bumpHx).pending = s.pending := rfl
@[simp] theorem State.bumpHx_run (s : State) : (s.bumpHx).run = s.run := rfl
@[simp] theorem State.bumpHx_seiWindow (s : State) : (s.bumpHx).seiWindow = s.seiWindow := rfl
@[simp] theorem State.bumpHx_mem (s : State) : (s.bumpHx).mem = s.mem := rfl
@[simp] theorem State.bumpHx_params (s : State) : (s.bumpHx).params = s.params := rfl
@[simp] theorem State.bumpHx_draws (s : State) : (s.bumpHx).draws = s.draws := rfl
@[simp] theorem State.bumpHx_ioTrace (s : State) : (s.bumpHx).ioTrace = s.ioTrace := rfl
@[simp] theorem State.bumpHx_inputs (s : State) : (s.bumpHx).inputs = s.inputs := rfl

/-! ### `closeWindow` -/

@[simp] theorem State.closeWindow_a (s : State) : (s.closeWindow).a = s.a := rfl
@[simp] theorem State.closeWindow_x (s : State) : (s.closeWindow).x = s.x := rfl
@[simp] theorem State.closeWindow_h (s : State) : (s.closeWindow).h = s.h := rfl
@[simp] theorem State.closeWindow_sp (s : State) : (s.closeWindow).sp = s.sp := rfl
@[simp] theorem State.closeWindow_pc (s : State) : (s.closeWindow).pc = s.pc := rfl
@[simp] theorem State.closeWindow_ccr (s : State) : (s.closeWindow).ccr = s.ccr := rfl
@[simp] theorem State.closeWindow_irqPin (s : State) : (s.closeWindow).irqPin = s.irqPin := rfl
@[simp] theorem State.closeWindow_pending (s : State) : (s.closeWindow).pending = s.pending := rfl
@[simp] theorem State.closeWindow_run (s : State) : (s.closeWindow).run = s.run := rfl
@[simp] theorem State.closeWindow_seiWindow (s : State) : (s.closeWindow).seiWindow = false := rfl
@[simp] theorem State.closeWindow_mem (s : State) : (s.closeWindow).mem = s.mem := rfl
@[simp] theorem State.closeWindow_params (s : State) : (s.closeWindow).params = s.params := rfl
@[simp] theorem State.closeWindow_draws (s : State) : (s.closeWindow).draws = if s.windowOpen then s.draws + 1 else s.draws := rfl
@[simp] theorem State.closeWindow_ioTrace (s : State) : (s.closeWindow).ioTrace = s.ioTrace := rfl
@[simp] theorem State.closeWindow_inputs (s : State) : (s.closeWindow).inputs = s.inputs := rfl

/-! ### `srcAfter` -/

@[simp] theorem srcAfter_a (s : State) (o : Src) : (srcAfter o s).a = s.a := by
  cases o <;> rfl
@[simp] theorem srcAfter_x (s : State) (o : Src) : (srcAfter o s).x = s.x := by
  cases o <;> rfl
@[simp] theorem srcAfter_h (s : State) (o : Src) : (srcAfter o s).h = s.h := by
  cases o <;> rfl
@[simp] theorem srcAfter_sp (s : State) (o : Src) : (srcAfter o s).sp = s.sp := by
  cases o <;> rfl
@[simp] theorem srcAfter_pc (s : State) (o : Src) : (srcAfter o s).pc = s.pc := by
  cases o <;> rfl
@[simp] theorem srcAfter_ccr (s : State) (o : Src) : (srcAfter o s).ccr = s.ccr := by
  cases o <;> rfl
@[simp] theorem srcAfter_irqPin (s : State) (o : Src) : (srcAfter o s).irqPin = s.irqPin := by
  cases o <;> rfl
@[simp] theorem srcAfter_pending (s : State) (o : Src) : (srcAfter o s).pending = s.pending := by
  cases o <;> rfl
@[simp] theorem srcAfter_run (s : State) (o : Src) : (srcAfter o s).run = s.run := by
  cases o <;> rfl
@[simp] theorem srcAfter_seiWindow (s : State) (o : Src) : (srcAfter o s).seiWindow = s.seiWindow := by
  cases o <;> rfl
@[simp] theorem srcAfter_mem (s : State) (o : Src) : (srcAfter o s).mem = s.mem := by
  cases o <;> rfl
@[simp] theorem srcAfter_params (s : State) (o : Src) : (srcAfter o s).params = s.params := by
  cases o <;> rfl
@[simp] theorem srcAfter_inputs (s : State) (o : Src) : (srcAfter o s).inputs = s.inputs := by
  cases o <;> rfl

/-! ### `placeAfter` -/

@[simp] theorem placeAfter_a (s : State) (p : Place) : (placeAfter p s).a = s.a := by
  cases p <;> rfl
@[simp] theorem placeAfter_x (s : State) (p : Place) : (placeAfter p s).x = s.x := by
  cases p <;> rfl
@[simp] theorem placeAfter_h (s : State) (p : Place) : (placeAfter p s).h = s.h := by
  cases p <;> rfl
@[simp] theorem placeAfter_sp (s : State) (p : Place) : (placeAfter p s).sp = s.sp := by
  cases p <;> rfl
@[simp] theorem placeAfter_pc (s : State) (p : Place) : (placeAfter p s).pc = s.pc := by
  cases p <;> rfl
@[simp] theorem placeAfter_ccr (s : State) (p : Place) : (placeAfter p s).ccr = s.ccr := by
  cases p <;> rfl
@[simp] theorem placeAfter_irqPin (s : State) (p : Place) : (placeAfter p s).irqPin = s.irqPin := by
  cases p <;> rfl
@[simp] theorem placeAfter_pending (s : State) (p : Place) : (placeAfter p s).pending = s.pending := by
  cases p <;> rfl
@[simp] theorem placeAfter_run (s : State) (p : Place) : (placeAfter p s).run = s.run := by
  cases p <;> rfl
@[simp] theorem placeAfter_seiWindow (s : State) (p : Place) : (placeAfter p s).seiWindow = s.seiWindow := by
  cases p <;> rfl
@[simp] theorem placeAfter_mem (s : State) (p : Place) : (placeAfter p s).mem = s.mem := by
  cases p <;> rfl
@[simp] theorem placeAfter_params (s : State) (p : Place) : (placeAfter p s).params = s.params := by
  cases p <;> rfl
@[simp] theorem placeAfter_inputs (s : State) (p : Place) : (placeAfter p s).inputs = s.inputs := by
  cases p <;> rfl

/-! ### `placePut` -/

@[simp] theorem placePut_h (s : State) (p : Place) (v : Byte) : (placePut p v s).h = s.h := by
  cases p <;> rfl
@[simp] theorem placePut_sp (s : State) (p : Place) (v : Byte) : (placePut p v s).sp = s.sp := by
  cases p <;> rfl
@[simp] theorem placePut_pc (s : State) (p : Place) (v : Byte) : (placePut p v s).pc = s.pc := by
  cases p <;> rfl
@[simp] theorem placePut_ccr (s : State) (p : Place) (v : Byte) : (placePut p v s).ccr = s.ccr := by
  cases p <;> rfl
@[simp] theorem placePut_irqPin (s : State) (p : Place) (v : Byte) : (placePut p v s).irqPin = s.irqPin := by
  cases p <;> rfl
@[simp] theorem placePut_pending (s : State) (p : Place) (v : Byte) : (placePut p v s).pending = s.pending := by
  cases p <;> rfl
@[simp] theorem placePut_run (s : State) (p : Place) (v : Byte) : (placePut p v s).run = s.run := by
  cases p <;> rfl
@[simp] theorem placePut_seiWindow (s : State) (p : Place) (v : Byte) : (placePut p v s).seiWindow = s.seiWindow := by
  cases p <;> rfl
@[simp] theorem placePut_params (s : State) (p : Place) (v : Byte) : (placePut p v s).params = s.params := by
  cases p <;> rfl
@[simp] theorem placePut_draws (s : State) (p : Place) (v : Byte) : (placePut p v s).draws = s.draws := by
  cases p <;> rfl
@[simp] theorem placePut_inputs (s : State) (p : Place) (v : Byte) : (placePut p v s).inputs = s.inputs := by
  cases p <;> rfl

/-! ### What the reads of State see -/

/-- What an address is depends on the launch alone. -/
theorem State.kindAt_congr {s t : State} (h : t.params = s.params) (a : Word) : t.kindAt a = s.kindAt a := by
  simp [State.kindAt, h]

/-- What RAM or ROM holds depends on memory alone. -/
theorem State.peek_congr {s t : State} (h : t.mem = s.mem) (a : Word) : t.peek a = s.peek a := by
  simp [State.peek, h]

@[simp] theorem State.kindAt_afterRead (s : State) (a b : Word) : (s.afterRead a).kindAt b = s.kindAt b := rfl
@[simp] theorem State.kindAt_afterWrite (s : State) (a : Word) (v : Byte) (b : Word) :
    (s.afterWrite a v).kindAt b = s.kindAt b := rfl
@[simp] theorem State.kindAt_pushed (s : State) (v : Byte) (b : Word) : (s.pushed v).kindAt b = s.kindAt b := rfl
@[simp] theorem State.kindAt_setHx (s : State) (v b : Word) : (s.setHx v).kindAt b = s.kindAt b := rfl
@[simp] theorem State.kindAt_bumpHx (s : State) (b : Word) : s.bumpHx.kindAt b = s.kindAt b := rfl
@[simp] theorem State.kindAt_closeWindow (s : State) (b : Word) : s.closeWindow.kindAt b = s.kindAt b := rfl
@[simp] theorem kindAt_srcAfter (s : State) (o : Src) (b : Word) : (srcAfter o s).kindAt b = s.kindAt b := by
  cases o <;> rfl
@[simp] theorem kindAt_placeAfter (s : State) (p : Place) (b : Word) : (placeAfter p s).kindAt b = s.kindAt b := by
  cases p <;> rfl
@[simp] theorem kindAt_placePut (s : State) (p : Place) (v : Byte) (b : Word) :
    (placePut p v s).kindAt b = s.kindAt b := by
  cases p <;> rfl

@[simp] theorem State.peek_afterRead (s : State) (a b : Word) : (s.afterRead a).peek b = s.peek b := rfl
@[simp] theorem State.peek_setHx (s : State) (v b : Word) : (s.setHx v).peek b = s.peek b := rfl
@[simp] theorem State.peek_bumpHx (s : State) (b : Word) : s.bumpHx.peek b = s.peek b := rfl
@[simp] theorem State.peek_closeWindow (s : State) (b : Word) : s.closeWindow.peek b = s.peek b := rfl
@[simp] theorem State.peek_pushed (s : State) (v : Byte) (b : Word) :
    (s.pushed v).peek b = (s.afterWrite s.sp v).peek b := rfl
@[simp] theorem peek_srcAfter (s : State) (o : Src) (b : Word) : (srcAfter o s).peek b = s.peek b := by
  cases o <;> rfl
@[simp] theorem peek_placeAfter (s : State) (p : Place) (b : Word) : (placeAfter p s).peek b = s.peek b := by
  cases p <;> rfl

/-- A read that is not of an IO address changes nothing (R58, R59). -/
theorem State.afterRead_of_not_io {s : State} {a : Word} (h : s.kindAt a ≠ .io) : s.afterRead a = s := by
  simp [State.afterRead, h]

/-- A read that is not of an IO address gives memory's byte. -/
theorem State.readValue_of_not_io {s : State} {a : Word} (h : s.kindAt a ≠ .io) : s.readValue a = s.peek a := by
  simp [State.readValue, h]

/-! ### H:X -/

@[simp] theorem hiByte_joinBytes (hi lo : Byte) : hiByte (joinBytes hi lo) = hi := by
  apply BitVec.eq_of_getLsbD_eq
  intro i h
  unfold hiByte joinBytes
  rw [BitVec.getLsbD_extractLsb', BitVec.getLsbD_append]
  simp [h]

@[simp] theorem loByte_joinBytes (hi lo : Byte) : loByte (joinBytes hi lo) = lo := by
  apply BitVec.eq_of_getLsbD_eq
  intro i h
  unfold loByte joinBytes
  rw [BitVec.getLsbD_extractLsb', BitVec.getLsbD_append]
  simp [h]

@[simp] theorem joinBytes_hiByte_loByte (v : Word) : joinBytes (hiByte v) (loByte v) = v := by
  apply BitVec.eq_of_getLsbD_eq
  intro i h
  unfold hiByte joinBytes loByte
  rw [BitVec.getLsbD_append, BitVec.getLsbD_extractLsb', BitVec.getLsbD_extractLsb']
  by_cases h8 : i < 8
  · simp [h8]
  · have h16 : i - 8 < 8 := by omega
    have e : 8 + (i - 8) = i := by omega
    simp [h8, h16, e]

@[simp] theorem State.hx_setHx (s : State) (v : Word) : (s.setHx v).hx = v := by
  simp [State.hx]

end Sys2Proof.Machine
end

