-- ==== Sys2Proof/Laws/Memory.lean ====
section
/-! SUPPORT. The laws of memory as a list of cells: a read after a write, and that every operation keeps the
canonical form. -/

namespace Sys2Proof.Machine

theorem Memory.read_write_same (m : Memory) (a : Nat) (v : Byte) : Memory.read (m.write a v) a = some v := by
  induction m with
  | nil => simp [Memory.write, Memory.read]
  | cons p rest ih =>
    obtain ⟨k, b⟩ := p
    simp only [Memory.write]
    split
    · next h => simp [Memory.read, h]
    · split
      · simp [Memory.read]
      · next h1 h2 => simp [Memory.read, h1, h2, ih]

theorem Memory.read_write_other (m : Memory) {a b : Nat} (v : Byte) (h : b ≠ a) :
    Memory.read (m.write a v) b = m.read b := by
  induction m with
  | nil => simp [Memory.write, Memory.read, h]
  | cons p rest ih =>
    obtain ⟨k, c⟩ := p
    simp only [Memory.write]
    split
    · next e => subst e; simp [Memory.read, h]
    · split
      · next h1 h2 =>
        simp only [Memory.read, h, if_false]
        split
        · next hba =>
          have : ¬ b = k := by omega
          have : b < k := by omega
          simp [*]
        · rfl
      · next h1 h2 => simp only [Memory.read, ih]

/-- Every key of the written memory is the key written or was there before. -/
theorem Memory.mem_write {m : Memory} {a : Nat} {v : Byte} {p : Host.Cell} (h : p ∈ m.write a v) :
    p.1 = a ∨ p ∈ m := by
  induction m with
  | nil => simp [Memory.write] at h; exact .inl (by rw [h])
  | cons q rest ih =>
    obtain ⟨k, b⟩ := q
    simp only [Memory.write] at h
    split at h
    · next e =>
      rcases List.mem_cons.mp h with h' | h'
      · exact .inl (by rw [h', e])
      · exact .inr (List.mem_cons_of_mem _ h')
    · split at h
      · rcases List.mem_cons.mp h with h' | h'
        · exact .inl (by rw [h'])
        · exact .inr h'
      · rcases List.mem_cons.mp h with h' | h'
        · exact .inr (by rw [h']; exact List.mem_cons_self ..)
        · rcases ih h' with h'' | h''
          · exact .inl h''
          · exact .inr (List.mem_cons_of_mem _ h'')

/-- A write keeps the canonical form. -/
theorem Memory.wf_write {m : Memory} (h : m.wf) {a : Nat} (ha : a < 65536) (v : Byte) :
    Memory.wf (m.write a v) := by
  refine ⟨?_, ?_⟩
  · obtain ⟨h, -⟩ := h
    induction m with
    | nil => simp [Memory.write]
    | cons q rest ih =>
      obtain ⟨k, b⟩ := q
      obtain ⟨hk, hr⟩ := List.pairwise_cons.mp h
      simp only [Memory.write]
      split
      · next e => exact List.pairwise_cons.mpr ⟨fun p hp => hk p hp, hr⟩
      · split
        · next h1 h2 =>
          refine List.pairwise_cons.mpr ⟨fun p hp => ?_, h⟩
          rcases List.mem_cons.mp hp with hp | hp
          · rw [hp]; exact h2
          · exact Nat.lt_trans h2 (hk p hp)
        · next h1 h2 =>
          refine List.pairwise_cons.mpr ⟨fun p hp => ?_, ih hr⟩
          rcases Memory.mem_write hp with hp | hp
          · simp only [hp]; omega
          · exact hk p hp
  · intro p hp
    rcases Memory.mem_write hp with hp | hp
    · rw [hp]; exact ha
    · exact h.2 p hp

/-- Placing a program's bytes keeps the canonical form. -/
theorem wf_placeBytes (bytes : List Byte) (a : Word) {m : Memory} (h : m.wf) :
    Memory.wf (placeBytes bytes a m) := by
  induction bytes generalizing a m with
  | nil => exact h
  | cons b rest ih => exact ih (a + 1) (Memory.wf_write h a.isLt b)

theorem State.reset_mem_wf : State.reset.mem.wf := by decide

/-- A byte written to RAM or ROM's array is read back. -/
theorem State.peek_afterWrite_same {s : State} {a : Word} (h : s.kindAt a ≠ .io) (v : Byte) :
    (s.afterWrite a v).peek a = v := by
  simp [State.peek, h, Memory.read_write_same]

/-- A write leaves every other address alone. -/
theorem State.peek_afterWrite_other (s : State) {a b : Word} (h : b ≠ a) (v : Byte) :
    (s.afterWrite a v).peek b = s.peek b := by
  have hn : b.toNat ≠ a.toNat := fun e => h (BitVec.eq_of_toNat_eq e)
  simp only [State.peek, State.afterWrite_mem]
  split
  · rfl
  · rw [Memory.read_write_other _ _ hn]

/-- A write to an IO address leaves memory alone (R60). -/
theorem State.peek_afterWrite_io {s : State} {a : Word} (h : s.kindAt a = .io) (v : Byte) (b : Word) :
    (s.afterWrite a v).peek b = s.peek b := by
  simp [State.peek, h]

theorem State.wf_afterWrite {s : State} (h : s.mem.wf) (a : Word) (v : Byte) : (s.afterWrite a v).mem.wf := by
  simp only [State.afterWrite_mem]
  split
  · exact h
  · exact Memory.wf_write h a.isLt v

end Sys2Proof.Machine
end

