-- ==== Sys2Proof/Laws/Ops.lean ====
section
/-! SUPPORT. For each shared operation one lemma that says once everything it can do: when it answers a next state,
and which. The provers cite these and never unfold the operations. -/

namespace Sys2Proof.Machine

/-! ### Ends -/

@[simp] theorem finish_ok (s : State) : finish (.ok s) = .next s := rfl

/-- An operation ends in a next state exactly if it answers that state. -/
theorem finish_eq_next {r : Except Stop State} {t : State} : finish r = .next t ↔ r = .ok t := by
  rcases r with e | s
  · cases e <;> simp [finish]
  · simp [finish]

/-- Sequencing answers a value exactly if both parts do. -/
theorem bind_eq_ok {α β : Type} {r : Except Stop α} {f : α → Except Stop β} {b : β} :
    (r >>= f) = .ok b ↔ ∃ a, r = .ok a ∧ f a = .ok b := by
  rcases r with e | a
  · simp [bind, Except.bind]
  · simp [bind, Except.bind]

@[simp] theorem ok_bind {α β : Type} (a : α) (f : α → Except Stop β) :
    ((Except.ok a : Except Stop α) >>= f) = f a := rfl

/-! ### Byte accesses -/

theorem readByte_of_readable {a : Word} {s : State} (h : s.readable a) :
    readByte a s = .ok (s.readValue a, s.afterRead a) := by
  simp [readByte, h]

theorem readByte_eq_ok {a : Word} {s : State} {p : Byte × State} :
    readByte a s = .ok p ↔ s.readable a ∧ p = (s.readValue a, s.afterRead a) := by
  unfold readByte
  split
  · next h => simp [h]
  · next h => simp [h, eq_comm]

theorem writeByte_of_writable {a : Word} {v : Byte} {s : State} (h : s.writable a) :
    writeByte a v s = .ok (s.afterWrite a v) := by
  unfold writeByte
  rcases h with h | h <;> simp [h]

theorem writeByte_eq_ok {a : Word} {v : Byte} {s t : State} :
    writeByte a v s = .ok t ↔ s.writable a ∧ t = s.afterWrite a v := by
  unfold writeByte
  split <;> next h => simp [State.writable, h, eq_comm]

theorem readWord_eq_ok {a : Word} {s : State} {p : Word × State} :
    readWord a s = .ok p ↔ s.readable a ∧ s.readable (a + 1)
      ∧ p = (joinBytes (s.readValue a) ((s.afterRead a).readValue (a + 1)), (s.afterRead a).afterRead (a + 1)) := by
  simp only [readWord, bind_eq_ok, Prod.exists, readByte_eq_ok, Prod.mk.injEq]
  constructor
  · rintro ⟨_, _, ⟨h1, rfl, rfl⟩, _, _, ⟨h2, rfl, rfl⟩, h3⟩
    exact ⟨h1, h2, (Except.ok.inj h3).symm⟩
  · rintro ⟨h1, h2, rfl⟩
    exact ⟨_, _, ⟨h1, rfl, rfl⟩, _, _, ⟨h2, rfl, rfl⟩, rfl⟩

theorem readWord_of_readable {a : Word} {s : State} (h : s.readable a) (h' : s.readable (a + 1)) :
    readWord a s = .ok (joinBytes (s.readValue a) ((s.afterRead a).readValue (a + 1)),
      (s.afterRead a).afterRead (a + 1)) :=
  readWord_eq_ok.mpr ⟨h, h', rfl⟩

theorem writeWord_eq_ok {a v : Word} {s t : State} :
    writeWord a v s = .ok t ↔ s.writable a ∧ s.writable (a + 1)
      ∧ t = (s.afterWrite a (hiByte v)).afterWrite (a + 1) (loByte v) := by
  simp only [writeWord, bind_eq_ok, writeByte_eq_ok]
  constructor
  · rintro ⟨_, ⟨h1, rfl⟩, h2, rfl⟩
    exact ⟨h1, h2, rfl⟩
  · rintro ⟨h1, h2, rfl⟩
    exact ⟨_, ⟨h1, rfl⟩, h2, rfl⟩

theorem writeWord_of_writable {a v : Word} {s : State} (h : s.writable a) (h' : s.writable (a + 1)) :
    writeWord a v s = .ok ((s.afterWrite a (hiByte v)).afterWrite (a + 1) (loByte v)) :=
  writeWord_eq_ok.mpr ⟨h, h', rfl⟩

/-! ### The stack -/

/-- The state after a pull that completes. -/
theorem pull8_eq_ok {s : State} {p : Byte × State} :
    pull8 s = .ok p ↔ s.readable (s.sp + 1)
      ∧ p = (s.readValue (s.sp + 1), { s.afterRead (s.sp + 1) with sp := s.sp + 1 }) := by
  unfold pull8
  rw [readByte_eq_ok]
  exact Iff.rfl

theorem push8_eq_ok {v : Byte} {s t : State} : push8 v s = .ok t ↔ s.writable s.sp ∧ t = s.pushed v := by
  simp only [push8, bind_eq_ok, writeByte_eq_ok]
  constructor
  · rintro ⟨_, ⟨h, rfl⟩, e⟩
    exact ⟨h, (Except.ok.inj e).symm⟩
  · rintro ⟨h, rfl⟩
    exact ⟨_, ⟨h, rfl⟩, rfl⟩

theorem push8_of_writable {v : Byte} {s : State} (h : s.writable s.sp) : push8 v s = .ok (s.pushed v) :=
  push8_eq_ok.mpr ⟨h, rfl⟩

theorem pushWord_eq_ok {v : Word} {s t : State} :
    pushWord v s = .ok t ↔ s.writable s.sp ∧ s.writable (s.sp - 1)
      ∧ t = (s.pushed (loByte v)).pushed (hiByte v) := by
  simp only [pushWord, bind_eq_ok, push8_eq_ok]
  constructor
  · rintro ⟨_, ⟨h1, rfl⟩, h2, rfl⟩
    exact ⟨h1, h2, rfl⟩
  · rintro ⟨h1, h2, rfl⟩
    exact ⟨_, ⟨h1, rfl⟩, h2, rfl⟩

theorem pullWord_eq_ok {s : State} {p : Word × State} :
    pullWord s = .ok p ↔ ∃ hi lo s1 s2, pull8 s = .ok (hi, s1) ∧ pull8 s1 = .ok (lo, s2)
      ∧ p = (joinBytes hi lo, s2) := by
  simp only [pullWord, bind_eq_ok, Prod.exists]
  constructor
  · rintro ⟨hi, s1, h1, lo, s2, h2, e⟩
    exact ⟨hi, lo, s1, s2, h1, h2, (Except.ok.inj e).symm⟩
  · rintro ⟨hi, lo, s1, s2, h1, h2, rfl⟩
    exact ⟨hi, s1, h1, lo, s2, h2, rfl⟩

/-! ### Operands -/

theorem loadSrc_eq_ok {o : Src} {s : State} {p : Byte × State} :
    loadSrc o s = .ok p ↔ srcReadable o s ∧ p = (srcValue o s, srcAfter o s) := by
  cases o with
  | imm ii => simp [loadSrc, srcReadable, srcValue, srcAfter, eq_comm]
  | mem e => exact readByte_eq_ok

theorem loadSrc_of_readable {o : Src} {s : State} (h : srcReadable o s) :
    loadSrc o s = .ok (srcValue o s, srcAfter o s) :=
  loadSrc_eq_ok.mpr ⟨h, rfl⟩

theorem loadPlace_eq_ok {p : Place} {s : State} {q : Byte × State} :
    loadPlace p s = .ok q ↔ placeReadable p s ∧ q = (placeValue p s, placeAfter p s) := by
  cases p
  case a => simp [loadPlace, placeEa, placeReadable, placeValue, placeAfter, eq_comm]
  case x => simp [loadPlace, placeEa, placeReadable, placeValue, placeAfter, eq_comm]
  all_goals exact readByte_eq_ok

theorem loadPlace_of_readable {p : Place} {s : State} (h : placeReadable p s) :
    loadPlace p s = .ok (placeValue p s, placeAfter p s) :=
  loadPlace_eq_ok.mpr ⟨h, rfl⟩

theorem storePlace_eq_ok {p : Place} {v : Byte} {s t : State} :
    storePlace p v s = .ok t ↔ placeWritable p s ∧ t = placePut p v s := by
  cases p
  case a => simp [storePlace, placeEa, placeWritable, placePut, eq_comm]
  case x => simp [storePlace, placeEa, placeWritable, placePut, eq_comm]
  all_goals exact writeByte_eq_ok

theorem storePlace_of_writable {p : Place} {v : Byte} {s : State} (h : placeWritable p s) :
    storePlace p v s = .ok (placePut p v s) :=
  storePlace_eq_ok.mpr ⟨h, rfl⟩

/-- A place that can be written can be read. -/
theorem placeReadable_of_writable {p : Place} {s : State} (h : placeWritable p s) : placeReadable p s := by
  cases p
  case a => exact trivial
  case x => exact trivial
  all_goals
    simp only [placeWritable, placeReadable, placeEa] at h ⊢
    rcases h with h | h <;> simp [h]

/-- Reading a place does not change whether it can be written. -/
@[simp] theorem placeWritable_placeAfter (p : Place) (s : State) :
    placeWritable p (placeAfter p s) ↔ placeWritable p s := by
  cases p <;> exact Iff.rfl

/-- Everything a read-modify-write instruction can do. -/
theorem modifyPlace_eq_ok {p : Place} {f : Byte → Ccr → Byte × Ccr} {s t : State} :
    modifyPlace p f s = .ok t ↔ placeWritable p s
      ∧ t = { placePut p (f (placeValue p s) s.ccr).1 (placeAfter p s) with
              ccr := (f (placeValue p s) s.ccr).2, pc := s.npc (placeLen p) } := by
  simp only [modifyPlace, bind_eq_ok, Prod.exists, loadPlace_eq_ok, storePlace_eq_ok, Prod.mk.injEq]
  constructor
  · rintro ⟨_, _, ⟨-, rfl, rfl⟩, _, ⟨h, rfl⟩, e⟩
    exact ⟨(placeWritable_placeAfter p s).mp h, (Except.ok.inj e).symm⟩
  · rintro ⟨h, rfl⟩
    exact ⟨_, _, ⟨placeReadable_of_writable h, rfl, rfl⟩, _,
      ⟨(placeWritable_placeAfter p s).mpr h, rfl⟩, rfl⟩

/-! ### Exceptions -/

/-- The state after the five bytes of an exception frame are pushed: PCL, PCH, X, A, CCR. -/
def framed (ret : Word) (s : State) : State :=
  ((((s.pushed (loByte ret)).pushed (hiByte ret)).pushed s.x).pushed s.a).pushed s.ccr.byte

/-- Everything that taking an exception can do. -/
theorem enterException_eq_ok {ret vector : Word} {s t : State} :
    enterException ret vector s = .ok t ↔
      (s.writable s.sp ∧ s.writable (s.sp - 1) ∧ s.writable (s.sp - 1 - 1) ∧ s.writable (s.sp - 1 - 1 - 1)
        ∧ s.writable (s.sp - 1 - 1 - 1 - 1))
      ∧ ∃ target u, readWord vector { framed ret s with ccr := { s.ccr with i := true } } = .ok (target, u)
          ∧ t = { u with pc := target } := by
  simp only [enterException, bind_eq_ok, pushWord_eq_ok, push8_eq_ok, Prod.exists, and_assoc, exists_and_left,
    exists_eq_left, State.pushed_sp, State.pushed_x, State.pushed_a, State.writable,
    State.kindAt_pushed, framed, Except.ok.injEq, eq_comm (b := t)]

/-- Everything that returning from an exception can do. -/
theorem returnFromException_eq_ok {s t : State} :
    returnFromException s = .ok t ↔
      ∃ flags acc idx target s1 s2 s3 s4, pull8 s = .ok (flags, s1) ∧ pull8 s1 = .ok (acc, s2)
        ∧ pull8 s2 = .ok (idx, s3) ∧ pullWord s3 = .ok (target, s4)
        ∧ t = { s4 with ccr := Ccr.ofByte flags, a := acc, x := idx, pc := target } := by
  simp only [returnFromException, bind_eq_ok, Prod.exists]
  constructor
  · rintro ⟨flags, s1, h1, acc, s2, h2, idx, s3, h3, target, s4, h4, e⟩
    exact ⟨flags, acc, idx, target, s1, s2, s3, s4, h1, h2, h3, h4, (Except.ok.inj e).symm⟩
  · rintro ⟨flags, acc, idx, target, s1, s2, s3, s4, h1, h2, h3, h4, rfl⟩
    exact ⟨flags, s1, h1, acc, s2, h2, idx, s3, h3, target, s4, h4, rfl⟩

/-- Everything that taking a hardware interrupt can do. -/
theorem takeInterrupt_eq_ok {src : IntSource} {vector : Word} {s t : State} :
    takeInterrupt src vector s = .ok t ↔
      ∃ u, enterException s.pc vector s = .ok u
        ∧ t = { u with run := .running, pending := u.pending.filter (fun p => p != src) } := by
  simp only [takeInterrupt, bind_eq_ok]
  constructor
  · rintro ⟨u, h, e⟩
    exact ⟨u, h, (Except.ok.inj e).symm⟩
  · rintro ⟨u, h, rfl⟩
    exact ⟨u, h, rfl⟩

/-! ### The CCR as a byte -/

/-- Bits 6 and 5 read as 1; the flags survive the round trip through a byte (R26). -/
theorem Ccr.ofByte_byte (c : Ccr) : Ccr.ofByte c.byte = c := by
  obtain ⟨v, hf, i, n, z, c⟩ := c
  revert v hf i n z c
  decide

/-- A byte that passes through the CCR comes back with bits 6 and 5 set. -/
theorem Ccr.byte_ofByte (b : Byte) : (Ccr.ofByte b).byte = b ||| 0x60#8 := by
  revert b
  decide

/-! ### The boundary -/

/-- A boundary with a silent environment and nothing pending. -/
theorem boundary_quiet {s : State} (hi : s.inputs = []) (hp : s.pending = []) (hr : s.run = .running) :
    boundary s = (.execute, { s with seiWindow := false }) := by
  have hh : highest s = none := by
    simp [highest, hp]
  simp [boundary, takeInput, hi, chooseMove, State.closeWindow, State.windowOpen, hr, hh]

end Sys2Proof.Machine
end

