-- ==== Sys2Proof/Laws/Fetch.lean ====
section
/-! SUPPORT. The decoder on part of an instruction's bytes, and what the fetch answers where the bytes at PC are an
instruction. -/

namespace Sys2Proof

/-- A row whose operand bytes are all there is filled exactly by them, and by no fewer. -/
theorem Row.fill_take {row : Row} {op l : List Byte} {i : Instr} {n k : Nat}
    (h : row.fill op l = .instr i n) (hl : op.length + l.length = n) (hk : k < l.length) :
    row.fill op (l.take k) = .short := by
  cases row with
  | unassigned => simp [Row.fill] at h
  | op0 j =>
    simp only [Row.fill, Decoded.instr.injEq] at h
    omega
  | op1 f =>
    match l, h with
    | b :: r, h =>
      simp only [Row.fill, Decoded.instr.injEq] at h
      simp only [List.length_cons] at hl hk
      have : k = 0 := by omega
      subst this
      rfl
  | op2 f =>
    match l, h with
    | b :: b' :: r, h =>
      simp only [Row.fill, Decoded.instr.injEq] at h
      simp only [List.length_cons] at hl hk
      have : k = 0 ∨ k = 1 := by omega
      rcases this with rfl | rfl <;> rfl
  | opw f =>
    match l, h with
    | b :: b' :: r, h =>
      simp only [Row.fill, Decoded.instr.injEq] at h
      simp only [List.length_cons] at hl hk
      have : k = 0 ∨ k = 1 := by omega
      rcases this with rfl | rfl <;> rfl

/-- Fewer bytes than the instruction has are too short to decode. -/
theorem decode_take {l : List Byte} {i : Instr} {n k : Nat} (h : decode l = .instr i n) (hl : l.length = n)
    (hk : k < n) : decode (l.take k) = .short := by
  match l, k with
  | l, 0 => rfl
  | [], k + 1 => simp [decode] at h
  | b0 :: rest, k + 1 =>
    simp only [List.take_succ_cons]
    simp only [decode] at h ⊢
    split at h
    · next h9 =>
      match rest, k with
      | [], _ => simp at h
      | b1 :: rest', 0 => simp [h9]
      | b1 :: rest', k + 1 =>
        subst h9
        simp only [List.take_succ_cons, if_true]
        exact Row.fill_take (row := Opcodes.cell Opcodes.page2 b1) (op := [0x9E#8, b1]) (l := rest') h
          (by simp only [List.length_cons, List.length_nil] at hl ⊢; omega)
          (by simp only [List.length_cons] at hl; omega)
    · next h9 =>
      simp only [h9, if_false]
      exact Row.fill_take h (by simp only [List.length_cons, List.length_nil] at hl ⊢; omega)
        (by simp only [List.length_cons] at hl; omega)

/-- Two operand bytes are enough for every row. -/
theorem Row.fill_two (row : Row) (op : List Byte) (b b' : Byte) (r : List Byte) :
    row.fill op (b :: b' :: r) ≠ .short := by
  cases row <;> simp [Row.fill]

/-- Four bytes are never too short (R80). -/
theorem decode_four (b0 b1 b2 b3 : Byte) (r : List Byte) : decode (b0 :: b1 :: b2 :: b3 :: r) ≠ .short := by
  simp only [decode]
  split <;> exact Row.fill_two _ _ _ _ _

namespace Machine

theorem fetchByte_of_fetchable {a : Word} {s : State} (h : s.fetchable a) : fetchByte a s = .ok (s.peek a) := by
  unfold fetchByte
  rcases h with h | h <;> simp [h]

/-- What the fetch does where the bytes from `a` on are `rest`, and what was fetched before is `before`. -/
theorem fetchFrom_of_decode {s : State} {d : Decoded} :
    ∀ (rest before : List Byte) (a : Word) (fuel : Nat), rest.length ≤ fuel → rest ≠ [] →
      s.bytesAt a rest.length = rest → s.fetchableRange a rest.length = true →
      decode (before ++ rest) = d → d ≠ .short →
      (∀ k, k < rest.length → decode (before ++ rest.take k) = .short) →
      fetchFrom fuel a before s = .ok d
  | [], _, _, _, _, hne, _, _, _, _, _ => absurd rfl hne
  | b :: rest, before, a, 0, hf, _, _, _, _, _, _ => by simp at hf
  | b :: rest, before, a, fuel + 1, hf, _, hb, hr, hd, hs, hk => by
    simp only [List.length_cons, State.bytesAt, State.fetchableRange, List.cons.injEq, Bool.and_eq_true,
      decide_eq_true_eq] at hb hr
    simp only [fetchFrom, fetchByte_of_fetchable hr.1, hb.1, ok_bind]
    cases rest with
    | nil =>
      subst hd
      cases h : decode (before ++ [b]) with
      | short => exact absurd h hs
      | instr i n => rfl
      | illegal o => rfl
    | cons c rest =>
      have h1 : decode (before ++ [b]) = .short := hk 1 (by simp)
      rw [h1]
      refine fetchFrom_of_decode (c :: rest) (before ++ [b]) (a + 1) fuel ?_ (by simp) hb.2 hr.2 ?_ hs ?_
      · simpa using hf
      · simpa using hd
      · intro k hk'
        simpa using hk (k + 1) (by simpa using hk')

/-- Where the bytes at PC are an instruction, the fetch answers it. -/
theorem fetch_of_bytes {s : State} {i : Instr} {n : Nat} (hn : n ≤ 4)
    (hd : decode (s.bytesAt s.pc n) = .instr i n) (hl : (s.bytesAt s.pc n).length = n)
    (hr : s.fetchableRange s.pc n = true) : fetch s = .ok (.instr i n) := by
  refine fetchFrom_of_decode (s.bytesAt s.pc n) [] s.pc 4 (by omega) ?_ (by rw [hl]) (by rw [hl]; exact hr) hd
    (by simp) ?_
  · intro h
    rw [h] at hd
    simp [decode] at hd
  · intro k hk
    exact decode_take hd hl (by omega)

theorem State.length_bytesAt (s : State) (a : Word) (n : Nat) : (s.bytesAt a n).length = n := by
  induction n generalizing a with
  | zero => rfl
  | succ n ih => simp [State.bytesAt, ih]

/-- The fetch never ends for want of bytes. -/
theorem Laws.fetch_not_short (s : State) : fetch s ≠ .ok .short := by
  intro h
  simp only [fetch, fetchFrom, bind_eq_ok] at h
  obtain ⟨b0, -, h⟩ := h
  split at h
  · simp only [bind_eq_ok] at h
    obtain ⟨b1, -, h⟩ := h
    split at h
    · simp only [bind_eq_ok] at h
      obtain ⟨b2, -, h⟩ := h
      split at h
      · simp only [bind_eq_ok] at h
        obtain ⟨b3, -, h⟩ := h
        split at h
        · next h4 => exact decode_four b0 b1 b2 b3 [] (by simpa using h4)
        all_goals simp at h
      all_goals simp at h
    all_goals simp at h
  all_goals simp at h

end Machine

end Sys2Proof
end

