-- ==== Sys2Proof/Tests/Slice0.lean ====
section
/-! SUPPORT. Tests: the smoke test of the well-formedness checks; the decoding of every opcode, with bytes written out
from the two-page map R99 and the instruction tables; single steps from spec/96_derived_vectors.md (T<n>, X<n>); and a
witness for the hypotheses of every statement that has any. -/

open Sys2Proof Sys2Proof.Machine

namespace Sys2Proof.Tests

/-! ### Helpers -/

/-- `VHINZC` as the vectors write it. -/
def ccrOf (v hf i n z c : Nat) : Ccr :=
  { v := v == 1, hf := hf == 1, i := i == 1, n := n == 1, z := z == 1, c := c == 1 }

/-- Bytes put into memory one by one. -/
def written (cells : List (Word × Byte)) (m : Memory) : Memory :=
  cells.foldl (fun acc p => acc.write p.1.toNat p.2) m

/-- The start state of a vector: the instruction's bytes at PC, and the cells it names. -/
def start (code : List Byte) (cells : List (Word × Byte)) (s : State) : State :=
  { s with mem := placeBytes code s.pc (written cells s.mem) }

/-- The outcome is a next state that passes the check. -/
def gives (o : Host.Outcome State Fault Refusal) (check : State → Bool) : Bool :=
  match o with
  | .next t => check t
  | .fault _ => false
  | .refused _ => false

/-- The outcome is this fault. -/
def faults (o : Host.Outcome State Fault Refusal) (f : Fault) : Bool :=
  match o with
  | .next _ => false
  | .fault g => decide (g = f)
  | .refused _ => false

/-- The outcome is this refusal. -/
def refuses (o : Host.Outcome State Fault Refusal) (r : Refusal) : Bool :=
  match o with
  | .next _ => false
  | .fault _ => false
  | .refused q => decide (q = r)

/-- Each list of bytes decodes to the instruction beside it, with its own length. -/
def decodeAs (rows : List (List Byte × Instr)) : Bool :=
  rows.all (fun p => decide (decode p.1 = .instr p.2 p.1.length))

/-- A machine with every kind of address: IO from `$0000`, unimplemented from `$3000`, ROM from `$E000`, the rest RAM. -/
def mapped : State :=
  { State.reset with
    params := { Config.conventional with
      regions := [⟨0x0000, 0x40, .io⟩, ⟨0x3000, 0x1000, .unimplemented⟩, ⟨0xE000, 0x2000, .rom⟩] } }

/-! ### Well-formedness -/

theorem test_wf_conventional : Config.conventional.wellFormed = true := by rfl

theorem test_wf_mapped : mapped.params.wellFormed = true := by rfl

theorem test_wf_refuses_empty_region :
    { Config.conventional with regions := [⟨0x80, 0, .io⟩] }.wellFormed = false := by decide

theorem test_wf_refuses_region_past_the_end :
    { Config.conventional with regions := [⟨0xFFFF, 2, .rom⟩] }.wellFormed = false := by decide

theorem test_wf_refuses_overlap :
    { Config.conventional with regions := [⟨0x0000, 0x40, .io⟩, ⟨0x003F, 1, .rom⟩] }.wellFormed = false := by decide

theorem test_wf_refuses_repeated_source :
    { Config.conventional with sources := [(.irq, 0xFFFA), (.irq, 0xFFF8)] }.wellFormed = false := by decide

theorem test_wf_refuses_missing_irq :
    { Config.conventional with sources := [(.onChip 0, 0xFFF8)] }.wellFormed = false := by decide

/-! ### Decoding: every opcode, operand bytes `12 34` -/

/-- R99, page 1, row `0x`. -/
theorem test_decode_0x : decodeAs [
    ([0x00, 0x12, 0x34], .brset0 0x12 0x34), ([0x01, 0x12, 0x34], .brclr0 0x12 0x34), ([0x02, 0x12, 0x34], .brset1 0x12 0x34),
    ([0x03, 0x12, 0x34], .brclr1 0x12 0x34), ([0x04, 0x12, 0x34], .brset2 0x12 0x34), ([0x05, 0x12, 0x34], .brclr2 0x12 0x34),
    ([0x06, 0x12, 0x34], .brset3 0x12 0x34), ([0x07, 0x12, 0x34], .brclr3 0x12 0x34), ([0x08, 0x12, 0x34], .brset4 0x12 0x34),
    ([0x09, 0x12, 0x34], .brclr4 0x12 0x34), ([0x0A, 0x12, 0x34], .brset5 0x12 0x34), ([0x0B, 0x12, 0x34], .brclr5 0x12 0x34),
    ([0x0C, 0x12, 0x34], .brset6 0x12 0x34), ([0x0D, 0x12, 0x34], .brclr6 0x12 0x34), ([0x0E, 0x12, 0x34], .brset7 0x12 0x34),
    ([0x0F, 0x12, 0x34], .brclr7 0x12 0x34)] = true := by rfl

/-- R99, page 1, row `1x`. -/
theorem test_decode_1x : decodeAs [
    ([0x10, 0x12], .bset0 0x12), ([0x11, 0x12], .bclr0 0x12), ([0x12, 0x12], .bset1 0x12),
    ([0x13, 0x12], .bclr1 0x12), ([0x14, 0x12], .bset2 0x12), ([0x15, 0x12], .bclr2 0x12),
    ([0x16, 0x12], .bset3 0x12), ([0x17, 0x12], .bclr3 0x12), ([0x18, 0x12], .bset4 0x12),
    ([0x19, 0x12], .bclr4 0x12), ([0x1A, 0x12], .bset5 0x12), ([0x1B, 0x12], .bclr5 0x12),
    ([0x1C, 0x12], .bset6 0x12), ([0x1D, 0x12], .bclr6 0x12), ([0x1E, 0x12], .bset7 0x12),
    ([0x1F, 0x12], .bclr7 0x12)] = true := by rfl

/-- R99, page 1, row `2x`. -/
theorem test_decode_2x : decodeAs [
    ([0x20, 0x12], .bra 0x12), ([0x21, 0x12], .brn 0x12), ([0x22, 0x12], .bhi 0x12),
    ([0x23, 0x12], .bls 0x12), ([0x24, 0x12], .bcc 0x12), ([0x25, 0x12], .bcs 0x12),
    ([0x26, 0x12], .bne 0x12), ([0x27, 0x12], .beq 0x12), ([0x28, 0x12], .bhcc 0x12),
    ([0x29, 0x12], .bhcs 0x12), ([0x2A, 0x12], .bpl 0x12), ([0x2B, 0x12], .bmi 0x12),
    ([0x2C, 0x12], .bmc 0x12), ([0x2D, 0x12], .bms 0x12), ([0x2E, 0x12], .bil 0x12),
    ([0x2F, 0x12], .bih 0x12)] = true := by rfl

/-- R99, page 1, row `3x`. -/
theorem test_decode_3x : decodeAs [
    ([0x30, 0x12], .negDir 0x12), ([0x31, 0x12, 0x34], .cbeqDir 0x12 0x34), ([0x33, 0x12], .comDir 0x12),
    ([0x34, 0x12], .lsrDir 0x12), ([0x35, 0x12], .sthxDir 0x12), ([0x36, 0x12], .rorDir 0x12),
    ([0x37, 0x12], .asrDir 0x12), ([0x38, 0x12], .lslDir 0x12), ([0x39, 0x12], .rolDir 0x12),
    ([0x3A, 0x12], .decDir 0x12), ([0x3B, 0x12, 0x34], .dbnzDir 0x12 0x34), ([0x3C, 0x12], .incDir 0x12),
    ([0x3D, 0x12], .tstDir 0x12), ([0x3F, 0x12], .clrDir 0x12)] = true := by rfl

/-- R99, page 1, row `4x`. -/
theorem test_decode_4x : decodeAs [
    ([0x40], .nega), ([0x41, 0x12, 0x34], .cbeqa 0x12 0x34), ([0x42], .mul),
    ([0x43], .coma), ([0x44], .lsra), ([0x45, 0x12, 0x34], .ldhxImm 0x1234),
    ([0x46], .rora), ([0x47], .asra), ([0x48], .lsla),
    ([0x49], .rola), ([0x4A], .deca), ([0x4B, 0x12], .dbnza 0x12),
    ([0x4C], .inca), ([0x4D], .tsta), ([0x4E, 0x12, 0x34], .movDirDir 0x12 0x34),
    ([0x4F], .clra)] = true := by rfl

/-- R99, page 1, row `5x`. -/
theorem test_decode_5x : decodeAs [
    ([0x50], .negx), ([0x51, 0x12, 0x34], .cbeqx 0x12 0x34), ([0x52], .div),
    ([0x53], .comx), ([0x54], .lsrx), ([0x55, 0x12], .ldhxDir 0x12),
    ([0x56], .rorx), ([0x57], .asrx), ([0x58], .lslx),
    ([0x59], .rolx), ([0x5A], .decx), ([0x5B, 0x12], .dbnzx 0x12),
    ([0x5C], .incx), ([0x5D], .tstx), ([0x5E, 0x12], .movDirIxp 0x12),
    ([0x5F], .clrx)] = true := by rfl

/-- R99, page 1, row `6x`. -/
theorem test_decode_6x : decodeAs [
    ([0x60, 0x12], .negIx1 0x12), ([0x61, 0x12, 0x34], .cbeqIx1p 0x12 0x34), ([0x62], .nsa),
    ([0x63, 0x12], .comIx1 0x12), ([0x64, 0x12], .lsrIx1 0x12), ([0x65, 0x12, 0x34], .cphxImm 0x1234),
    ([0x66, 0x12], .rorIx1 0x12), ([0x67, 0x12], .asrIx1 0x12), ([0x68, 0x12], .lslIx1 0x12),
    ([0x69, 0x12], .rolIx1 0x12), ([0x6A, 0x12], .decIx1 0x12), ([0x6B, 0x12, 0x34], .dbnzIx1 0x12 0x34),
    ([0x6C, 0x12], .incIx1 0x12), ([0x6D, 0x12], .tstIx1 0x12), ([0x6E, 0x12, 0x34], .movImmDir 0x12 0x34),
    ([0x6F, 0x12], .clrIx1 0x12)] = true := by rfl

/-- R99, page 1, row `7x`. -/
theorem test_decode_7x : decodeAs [
    ([0x70], .negIx), ([0x71, 0x12], .cbeqIxp 0x12), ([0x72], .daa),
    ([0x73], .comIx), ([0x74], .lsrIx), ([0x75, 0x12], .cphxDir 0x12),
    ([0x76], .rorIx), ([0x77], .asrIx), ([0x78], .lslIx),
    ([0x79], .rolIx), ([0x7A], .decIx), ([0x7B, 0x12], .dbnzIx 0x12),
    ([0x7C], .incIx), ([0x7D], .tstIx), ([0x7E, 0x12], .movIxpDir 0x12),
    ([0x7F], .clrIx)] = true := by rfl

/-- R99, page 1, row `8x`. -/
theorem test_decode_8x : decodeAs [
    ([0x80], .rti), ([0x81], .rts), ([0x83], .swi),
    ([0x84], .tap), ([0x85], .tpa), ([0x86], .pula),
    ([0x87], .psha), ([0x88], .pulx), ([0x89], .pshx),
    ([0x8A], .pulh), ([0x8B], .pshh), ([0x8C], .clrh),
    ([0x8E], .stop), ([0x8F], .wait)] = true := by rfl

/-- R99, page 1, row `9x`. -/
theorem test_decode_9x : decodeAs [
    ([0x90, 0x12], .bge 0x12), ([0x91, 0x12], .blt 0x12), ([0x92, 0x12], .bgt 0x12),
    ([0x93, 0x12], .ble 0x12), ([0x94], .txs), ([0x95], .tsx),
    ([0x97], .tax), ([0x98], .clc), ([0x99], .sec),
    ([0x9A], .cli), ([0x9B], .sei), ([0x9C], .rsp),
    ([0x9D], .nop), ([0x9F], .txa)] = true := by rfl

/-- R99, page 1, row `Ax`. -/
theorem test_decode_Ax : decodeAs [
    ([0xA0, 0x12], .subImm 0x12), ([0xA1, 0x12], .cmpImm 0x12), ([0xA2, 0x12], .sbcImm 0x12),
    ([0xA3, 0x12], .cpxImm 0x12), ([0xA4, 0x12], .andImm 0x12), ([0xA5, 0x12], .bitImm 0x12),
    ([0xA6, 0x12], .ldaImm 0x12), ([0xA7, 0x12], .ais 0x12), ([0xA8, 0x12], .eorImm 0x12),
    ([0xA9, 0x12], .adcImm 0x12), ([0xAA, 0x12], .oraImm 0x12), ([0xAB, 0x12], .addImm 0x12),
    ([0xAD, 0x12], .bsr 0x12), ([0xAE, 0x12], .ldxImm 0x12), ([0xAF, 0x12], .aix 0x12)] = true := by rfl

/-- R99, page 1, row `Bx`. -/
theorem test_decode_Bx : decodeAs [
    ([0xB0, 0x12], .subDir 0x12), ([0xB1, 0x12], .cmpDir 0x12), ([0xB2, 0x12], .sbcDir 0x12),
    ([0xB3, 0x12], .cpxDir 0x12), ([0xB4, 0x12], .andDir 0x12), ([0xB5, 0x12], .bitDir 0x12),
    ([0xB6, 0x12], .ldaDir 0x12), ([0xB7, 0x12], .staDir 0x12), ([0xB8, 0x12], .eorDir 0x12),
    ([0xB9, 0x12], .adcDir 0x12), ([0xBA, 0x12], .oraDir 0x12), ([0xBB, 0x12], .addDir 0x12),
    ([0xBC, 0x12], .jmpDir 0x12), ([0xBD, 0x12], .jsrDir 0x12), ([0xBE, 0x12], .ldxDir 0x12),
    ([0xBF, 0x12], .stxDir 0x12)] = true := by rfl

/-- R99, page 1, row `Cx`. -/
theorem test_decode_Cx : decodeAs [
    ([0xC0, 0x12, 0x34], .subExt 0x1234), ([0xC1, 0x12, 0x34], .cmpExt 0x1234), ([0xC2, 0x12, 0x34], .sbcExt 0x1234),
    ([0xC3, 0x12, 0x34], .cpxExt 0x1234), ([0xC4, 0x12, 0x34], .andExt 0x1234), ([0xC5, 0x12, 0x34], .bitExt 0x1234),
    ([0xC6, 0x12, 0x34], .ldaExt 0x1234), ([0xC7, 0x12, 0x34], .staExt 0x1234), ([0xC8, 0x12, 0x34], .eorExt 0x1234),
    ([0xC9, 0x12, 0x34], .adcExt 0x1234), ([0xCA, 0x12, 0x34], .oraExt 0x1234), ([0xCB, 0x12, 0x34], .addExt 0x1234),
    ([0xCC, 0x12, 0x34], .jmpExt 0x1234), ([0xCD, 0x12, 0x34], .jsrExt 0x1234), ([0xCE, 0x12, 0x34], .ldxExt 0x1234),
    ([0xCF, 0x12, 0x34], .stxExt 0x1234)] = true := by rfl

/-- R99, page 1, row `Dx`. -/
theorem test_decode_Dx : decodeAs [
    ([0xD0, 0x12, 0x34], .subIx2 0x1234), ([0xD1, 0x12, 0x34], .cmpIx2 0x1234), ([0xD2, 0x12, 0x34], .sbcIx2 0x1234),
    ([0xD3, 0x12, 0x34], .cpxIx2 0x1234), ([0xD4, 0x12, 0x34], .andIx2 0x1234), ([0xD5, 0x12, 0x34], .bitIx2 0x1234),
    ([0xD6, 0x12, 0x34], .ldaIx2 0x1234), ([0xD7, 0x12, 0x34], .staIx2 0x1234), ([0xD8, 0x12, 0x34], .eorIx2 0x1234),
    ([0xD9, 0x12, 0x34], .adcIx2 0x1234), ([0xDA, 0x12, 0x34], .oraIx2 0x1234), ([0xDB, 0x12, 0x34], .addIx2 0x1234),
    ([0xDC, 0x12, 0x34], .jmpIx2 0x1234), ([0xDD, 0x12, 0x34], .jsrIx2 0x1234), ([0xDE, 0x12, 0x34], .ldxIx2 0x1234),
    ([0xDF, 0x12, 0x34], .stxIx2 0x1234)] = true := by rfl

/-- R99, page 1, row `Ex`. -/
theorem test_decode_Ex : decodeAs [
    ([0xE0, 0x12], .subIx1 0x12), ([0xE1, 0x12], .cmpIx1 0x12), ([0xE2, 0x12], .sbcIx1 0x12),
    ([0xE3, 0x12], .cpxIx1 0x12), ([0xE4, 0x12], .andIx1 0x12), ([0xE5, 0x12], .bitIx1 0x12),
    ([0xE6, 0x12], .ldaIx1 0x12), ([0xE7, 0x12], .staIx1 0x12), ([0xE8, 0x12], .eorIx1 0x12),
    ([0xE9, 0x12], .adcIx1 0x12), ([0xEA, 0x12], .oraIx1 0x12), ([0xEB, 0x12], .addIx1 0x12),
    ([0xEC, 0x12], .jmpIx1 0x12), ([0xED, 0x12], .jsrIx1 0x12), ([0xEE, 0x12], .ldxIx1 0x12),
    ([0xEF, 0x12], .stxIx1 0x12)] = true := by rfl

/-- R99, page 1, row `Fx`. -/
theorem test_decode_Fx : decodeAs [
    ([0xF0], .subIx), ([0xF1], .cmpIx), ([0xF2], .sbcIx),
    ([0xF3], .cpxIx), ([0xF4], .andIx), ([0xF5], .bitIx),
    ([0xF6], .ldaIx), ([0xF7], .staIx), ([0xF8], .eorIx),
    ([0xF9], .adcIx), ([0xFA], .oraIx), ([0xFB], .addIx),
    ([0xFC], .jmpIx), ([0xFD], .jsrIx), ([0xFE], .ldxIx),
    ([0xFF], .stxIx)] = true := by rfl

/-- The page-2 opcodes `9E6x` of the instruction tables (R82). -/
theorem test_decode_9E6x : decodeAs [
    ([0x9E, 0x60, 0x12], .negSp1 0x12), ([0x9E, 0x61, 0x12, 0x34], .cbeqSp1 0x12 0x34), ([0x9E, 0x63, 0x12], .comSp1 0x12),
    ([0x9E, 0x64, 0x12], .lsrSp1 0x12), ([0x9E, 0x66, 0x12], .rorSp1 0x12), ([0x9E, 0x67, 0x12], .asrSp1 0x12),
    ([0x9E, 0x68, 0x12], .lslSp1 0x12), ([0x9E, 0x69, 0x12], .rolSp1 0x12), ([0x9E, 0x6A, 0x12], .decSp1 0x12),
    ([0x9E, 0x6B, 0x12, 0x34], .dbnzSp1 0x12 0x34), ([0x9E, 0x6C, 0x12], .incSp1 0x12), ([0x9E, 0x6D, 0x12], .tstSp1 0x12),
    ([0x9E, 0x6F, 0x12], .clrSp1 0x12)] = true := by rfl

/-- The page-2 opcodes `9EDx` of the instruction tables (R82). -/
theorem test_decode_9EDx : decodeAs [
    ([0x9E, 0xD0, 0x12, 0x34], .subSp2 0x1234), ([0x9E, 0xD1, 0x12, 0x34], .cmpSp2 0x1234), ([0x9E, 0xD2, 0x12, 0x34], .sbcSp2 0x1234),
    ([0x9E, 0xD3, 0x12, 0x34], .cpxSp2 0x1234), ([0x9E, 0xD4, 0x12, 0x34], .andSp2 0x1234), ([0x9E, 0xD5, 0x12, 0x34], .bitSp2 0x1234),
    ([0x9E, 0xD6, 0x12, 0x34], .ldaSp2 0x1234), ([0x9E, 0xD7, 0x12, 0x34], .staSp2 0x1234), ([0x9E, 0xD8, 0x12, 0x34], .eorSp2 0x1234),
    ([0x9E, 0xD9, 0x12, 0x34], .adcSp2 0x1234), ([0x9E, 0xDA, 0x12, 0x34], .oraSp2 0x1234), ([0x9E, 0xDB, 0x12, 0x34], .addSp2 0x1234),
    ([0x9E, 0xDE, 0x12, 0x34], .ldxSp2 0x1234), ([0x9E, 0xDF, 0x12, 0x34], .stxSp2 0x1234)] = true := by rfl

/-- The page-2 opcodes `9EEx` of the instruction tables (R82). -/
theorem test_decode_9EEx : decodeAs [
    ([0x9E, 0xE0, 0x12], .subSp1 0x12), ([0x9E, 0xE1, 0x12], .cmpSp1 0x12), ([0x9E, 0xE2, 0x12], .sbcSp1 0x12),
    ([0x9E, 0xE3, 0x12], .cpxSp1 0x12), ([0x9E, 0xE4, 0x12], .andSp1 0x12), ([0x9E, 0xE5, 0x12], .bitSp1 0x12),
    ([0x9E, 0xE6, 0x12], .ldaSp1 0x12), ([0x9E, 0xE7, 0x12], .staSp1 0x12), ([0x9E, 0xE8, 0x12], .eorSp1 0x12),
    ([0x9E, 0xE9, 0x12], .adcSp1 0x12), ([0x9E, 0xEA, 0x12], .oraSp1 0x12), ([0x9E, 0xEB, 0x12], .addSp1 0x12),
    ([0x9E, 0xEE, 0x12], .ldxSp1 0x12), ([0x9E, 0xEF, 0x12], .stxSp1 0x12)] = true := by rfl

/-! ### Single steps -/

theorem test_data_movement_1 : [
    -- T2: `LDA #$80`
    (let s := start [0xA6, 0x80] [] { State.reset with ccr := ccrOf 0 0 1 0 0 1 }
     gives (step s) (fun t => decide (t = { s with a := 0x80, ccr := ccrOf 0 0 1 1 0 1, pc := 0x6E02 }))),
    -- T9: `LDA $0100,SP`
    (let s := start [0x9E, 0xD6, 0x01, 0x00] [(0x01FD, 0x81)] { State.reset with sp := 0x00FD }
     gives (step s) (fun t => decide (t = { s with a := 0x81, ccr := ccrOf 0 0 1 1 0 0, pc := 0x6E04 }))),
    -- T12: `STA $02,SP`
    (let s := start [0x9E, 0xE7, 0x02] [] { State.reset with a := 0x33, sp := 0x01F0 }
     gives (step s) (fun t => decide (t = { s with pc := 0x6E03, mem := written [(0x01F2, 0x33)] s.mem }))),
    -- T14: `LDX $01,X`
    (let s := start [0xEE, 0x01] [(0x0081, 0x07)] { State.reset with x := 0x80 }
     gives (step s) (fun t => decide (t = { s with x := 0x07, pc := 0x6E02 }))),
    -- T15: `STX $0200`
    (let s := start [0xCF, 0x02, 0x00] [] { State.reset with x := 0x44 }
     gives (step s) (fun t => decide (t = { s with pc := 0x6E03, mem := written [(0x0200, 0x44)] s.mem }))),
    -- T18: `LDHX $FF`
    (let s := start [0x55, 0xFF] [(0x00FF, 0x12), (0x0100, 0x34)] State.reset
     gives (step s) (fun t => decide (t = { s with x := 0x34, h := 0x12, pc := 0x6E02 }))),
    -- T19: `STHX $50`
    (let s := start [0x35, 0x50] [] { State.reset with x := 0x34, h := 0x12 }
     gives (step s) (fun t => decide (t = { s with pc := 0x6E02, mem := written [(0x0050, 0x12), (0x0051, 0x34)] s.mem }))),
    -- T21: `CLR $50`
    (let s := start [0x3F, 0x50] [(0x0050, 0xFF)] { State.reset with ccr := ccrOf 1 0 1 1 0 1 }
     gives (step s) (fun t => decide (t = { s with ccr := ccrOf 0 0 1 0 1 1, pc := 0x6E02, mem := written [(0x0050, 0x00)] s.mem }))),
    -- T22: `CLRA`
    (let s := start [0x4F] [] { State.reset with a := 0x55 }
     gives (step s) (fun t => decide (t = { s with a := 0x00, ccr := ccrOf 0 0 1 0 1 0, pc := 0x6E01 }))),
    -- T23: `CLRX`
    (let s := start [0x5F] [] { State.reset with x := 0x55, h := 0x12 }
     gives (step s) (fun t => decide (t = { s with x := 0x00, ccr := ccrOf 0 0 1 0 1 0, pc := 0x6E01 }))),
    -- T24: `CLRH`
    (let s := start [0x8C] [] { State.reset with x := 0x55, h := 0x12 }
     gives (step s) (fun t => decide (t = { s with h := 0x00, ccr := ccrOf 0 0 1 0 1 0, pc := 0x6E01 }))),
    -- T25: `CLR $10,X`
    (let s := start [0x6F, 0x10] [(0x0110, 0xAB)] { State.reset with h := 0x01 }
     gives (step s) (fun t => decide (t = { s with ccr := ccrOf 0 0 1 0 1 0, pc := 0x6E02, mem := written [(0x0110, 0x00)] s.mem })))
    ].all id = true := by rfl

theorem test_data_movement_2 : [
    -- T27: `MOV #$AA,$00`
    (let s := start [0x6E, 0xAA, 0x00] [] State.reset
     gives (step s) (fun t => decide (t = { s with ccr := ccrOf 0 0 1 1 0 0, pc := 0x6E03, mem := written [(0x0000, 0xAA)] s.mem }))),
    -- T28: `MOV $10,$11`
    (let s := start [0x4E, 0x10, 0x11] [(0x0010, 0x80), (0x0011, 0x00)] State.reset
     gives (step s) (fun t => decide (t = { s with ccr := ccrOf 0 0 1 1 0 0, pc := 0x6E03, mem := written [(0x0011, 0x80)] s.mem }))),
    -- T29: `MOV $10,X+`
    (let s := start [0x5E, 0x10] [(0x0010, 0x00)] { State.reset with x := 0xFF }
     gives (step s) (fun t => decide (t = { s with x := 0x00, h := 0x01, ccr := ccrOf 0 0 1 0 1 0, pc := 0x6E02, mem := written [(0x00FF, 0x00)] s.mem }))),
    -- T30: `MOV ,X+,$12`
    (let s := start [0x7E, 0x12] [(0xFFFF, 0x42)] { State.reset with x := 0xFF, h := 0xFF }
     gives (step s) (fun t => decide (t = { s with x := 0x00, h := 0x00, pc := 0x6E02, mem := written [(0x0012, 0x42)] s.mem }))),
    -- T31: `NSA`
    (let s := start [0x62] [] { State.reset with a := 0xA5, ccr := ccrOf 0 0 1 1 0 0 }
     gives (step s) (fun t => decide (t = { s with a := 0x5A, pc := 0x6E01 }))),
    -- T32: `TAX`
    (let s := start [0x97] [] { State.reset with a := 0x80 }
     gives (step s) (fun t => decide (t = { s with x := 0x80, pc := 0x6E01 }))),
    -- T33: `TXA`
    (let s := start [0x9F] [] { State.reset with a := 0x11 }
     gives (step s) (fun t => decide (t = { s with a := 0x00, pc := 0x6E01 }))),
    -- T35: `PSHA`
    (let s := start [0x87] [] { State.reset with a := 0x12, sp := 0x0000 }
     gives (step s) (fun t => decide (t = { s with sp := 0xFFFF, pc := 0x6E01, mem := written [(0x0000, 0x12)] s.mem }))),
    -- T36: `PULA`
    (let s := start [0x86] [(0x00FF, 0x00)] { State.reset with sp := 0x00FE }
     gives (step s) (fun t => decide (t = { s with sp := 0x00FF, pc := 0x6E01 }))),
    -- T37: `PSHH`
    (let s := start [0x8B] [] { State.reset with h := 0x9A }
     gives (step s) (fun t => decide (t = { s with sp := 0x00FE, pc := 0x6E01, mem := written [(0x00FF, 0x9A)] s.mem }))),
    -- T38: `PULH`
    (let s := start [0x8A] [(0x0000, 0x21)] { State.reset with sp := 0xFFFF }
     gives (step s) (fun t => decide (t = { s with h := 0x21, sp := 0x0000, pc := 0x6E01 }))),
    -- T39: `PSHX`
    (let s := start [0x89] [] { State.reset with x := 0x01, sp := 0x0100 }
     gives (step s) (fun t => decide (t = { s with sp := 0x00FF, pc := 0x6E01, mem := written [(0x0100, 0x01)] s.mem }))),
    -- T40: `PULX`
    (let s := start [0x88] [(0x00FE, 0xEE)] { State.reset with sp := 0x00FD }
     gives (step s) (fun t => decide (t = { s with x := 0xEE, sp := 0x00FE, pc := 0x6E01 })))
    ].all id = true := by rfl

theorem test_bit_set_clear : [
    -- T43: `BSET 3,$FF`
    (let s := start [0x16, 0xFF] [(0x00FF, 0xF0)] State.reset
     gives (step s) (fun t => decide (t = { s with pc := 0x6E02, mem := written [(0x00FF, 0xF8)] s.mem }))),
    -- T44: `BCLR 3,$50`
    (let s := start [0x17, 0x50] [(0x0050, 0xFF)] State.reset
     gives (step s) (fun t => decide (t = { s with pc := 0x6E02, mem := written [(0x0050, 0xF7)] s.mem })))
    ].all id = true := by rfl

theorem test_arithmetic : [
    -- T46: `ADD #$01`
    (let s := start [0xAB, 0x01] [] { State.reset with a := 0x7F }
     gives (step s) (fun t => decide (t = { s with a := 0x80, ccr := ccrOf 1 1 1 1 0 0, pc := 0x6E02 }))),
    -- T47: `ADD #$01`
    (let s := start [0xAB, 0x01] [] { State.reset with a := 0xFF }
     gives (step s) (fun t => decide (t = { s with a := 0x00, ccr := ccrOf 0 1 1 0 1 1, pc := 0x6E02 }))),
    -- T51: `ADC #$00`
    (let s := start [0xA9, 0x00] [] { State.reset with a := 0xFF, ccr := ccrOf 0 0 1 0 0 1 }
     gives (step s) (fun t => decide (t = { s with a := 0x00, ccr := ccrOf 0 1 1 0 1 1, pc := 0x6E02 }))),
    -- T53: `ADC #$7F`
    (let s := start [0xA9, 0x7F] [] { State.reset with ccr := ccrOf 0 0 1 0 0 1 }
     gives (step s) (fun t => decide (t = { s with a := 0x80, ccr := ccrOf 1 1 1 1 0 0, pc := 0x6E02 }))),
    -- T55: `SUB #$01`
    (let s := start [0xA0, 0x01] [] { State.reset with a := 0x80 }
     gives (step s) (fun t => decide (t = { s with a := 0x7F, ccr := ccrOf 1 0 1 0 0 0, pc := 0x6E02 }))),
    -- T56: `SUB #$50`
    (let s := start [0xA0, 0x50] [] { State.reset with a := 0x50, ccr := ccrOf 0 1 1 0 0 0 }
     gives (step s) (fun t => decide (t = { s with a := 0x00, ccr := ccrOf 0 1 1 0 1 0, pc := 0x6E02 }))),
    -- T57: `SBC #$FF`
    (let s := start [0xA2, 0xFF] [] { State.reset with ccr := ccrOf 0 0 1 0 0 1 }
     gives (step s) (fun t => decide (t = { s with ccr := ccrOf 0 0 1 0 1 1, pc := 0x6E02 }))),
    -- T58: `SBC #$00`
    (let s := start [0xA2, 0x00] [] { State.reset with a := 0x80, ccr := ccrOf 0 0 1 0 0 1 }
     gives (step s) (fun t => decide (t = { s with a := 0x7F, ccr := ccrOf 1 0 1 0 0 0, pc := 0x6E02 }))),
    -- T60: `DAA`
    (let s := start [0x72] [] { State.reset with a := 0xC1, ccr := ccrOf 0 1 1 0 0 0 }
     gives (step s) (fun t => t.a == 0x27 && t.pc == 0x6E01 && t.ccr.hf && t.ccr.i && !t.ccr.n && !t.ccr.z && t.ccr.c)),
    -- T65: `DAA`
    (let s := start [0x72] [] { State.reset with a := 0x33, ccr := ccrOf 0 1 1 0 0 1 }
     gives (step s) (fun t => t.a == 0x99 && t.pc == 0x6E01 && t.ccr.hf && t.ccr.i && t.ccr.n && !t.ccr.z && t.ccr.c)),
    -- T68: `MUL`
    (let s := start [0x42] [] { State.reset with a := 0xFF, x := 0xFF, ccr := ccrOf 0 1 1 0 1 1 }
     gives (step s) (fun t => decide (t = { s with a := 0x01, x := 0xFE, ccr := ccrOf 0 0 1 0 1 0, pc := 0x6E01 }))),
    -- T72: `DIV`
    (let s := start [0x52] [] { State.reset with a := 0xFF, x := 0x10, h := 0x0F }
     gives (step s) (fun t => decide (t = { s with pc := 0x6E01 }))),
    -- T74: `DIV`
    (let s := start [0x52] [] { State.reset with x := 0x10, h := 0x10 }
     gives (step s) (fun t => t.pc == 0x6E01 && !t.ccr.v && !t.ccr.hf && t.ccr.i && !t.ccr.n && t.ccr.c))
    ].all id = true := by rfl

theorem test_monadic : [
    -- T76: `INCA`
    (let s := start [0x4C] [] { State.reset with a := 0x7F }
     gives (step s) (fun t => decide (t = { s with a := 0x80, ccr := ccrOf 1 0 1 1 0 0, pc := 0x6E01 }))),
    -- T78: `INCX`
    (let s := start [0x5C] [] { State.reset with x := 0xFF, h := 0x12 }
     gives (step s) (fun t => decide (t = { s with x := 0x00, ccr := ccrOf 0 0 1 0 1 0, pc := 0x6E01 }))),
    -- T80: `INC $01,SP`
    (let s := start [0x9E, 0x6C, 0x01] [(0x00FF, 0xFE)] { State.reset with sp := 0x00FE }
     gives (step s) (fun t => decide (t = { s with ccr := ccrOf 0 0 1 1 0 0, pc := 0x6E03, mem := written [(0x00FF, 0xFF)] s.mem }))),
    -- T81: `DECA`
    (let s := start [0x4A] [] { State.reset with a := 0x80 }
     gives (step s) (fun t => decide (t = { s with a := 0x7F, ccr := ccrOf 1 0 1 0 0 0, pc := 0x6E01 }))),
    -- T84: `DEC ,X`
    (let s := start [0x7A] [(0x0050, 0x00)] { State.reset with x := 0x50 }
     gives (step s) (fun t => decide (t = { s with ccr := ccrOf 0 0 1 1 0 0, pc := 0x6E01, mem := written [(0x0050, 0xFF)] s.mem }))),
    -- T86: `NEGA`
    (let s := start [0x40] [] { State.reset with a := 0x80 }
     gives (step s) (fun t => decide (t = { s with ccr := ccrOf 1 0 1 1 0 1, pc := 0x6E01 }))),
    -- T87: `NEGX`
    (let s := start [0x50] [] { State.reset with x := 0x01 }
     gives (step s) (fun t => decide (t = { s with x := 0xFF, ccr := ccrOf 0 0 1 1 0 1, pc := 0x6E01 }))),
    -- T89: `AIS #$80`
    (let s := start [0xA7, 0x80] [] { State.reset with sp := 0x0010 }
     gives (step s) (fun t => decide (t = { s with sp := 0xFF90, pc := 0x6E02 }))),
    -- T92: `AIX #$01`
    (let s := start [0xAF, 0x01] [] { State.reset with x := 0xFF, ccr := ccrOf 0 0 1 0 1 0 }
     gives (step s) (fun t => decide (t = { s with x := 0x00, h := 0x01, pc := 0x6E02 }))),
    -- T94: `AIX #$80`
    (let s := start [0xAF, 0x80] [] { State.reset with x := 0x34, h := 0x12 }
     gives (step s) (fun t => decide (t = { s with x := 0xB4, h := 0x11, pc := 0x6E02 })))
    ].all id = true := by rfl

theorem test_shifts : [
    -- T97: `LSLA`
    (let s := start [0x48] [] { State.reset with a := 0xC0 }
     gives (step s) (fun t => decide (t = { s with a := 0x80, ccr := ccrOf 0 0 1 1 0 1, pc := 0x6E01 }))),
    -- T98: `ASLX`
    (let s := start [0x58] [] { State.reset with x := 0x81, h := 0x01 }
     gives (step s) (fun t => decide (t = { s with x := 0x02, ccr := ccrOf 1 0 1 0 0 1, pc := 0x6E01 }))),
    -- T100: `ASRA`
    (let s := start [0x47] [] { State.reset with a := 0xFF }
     gives (step s) (fun t => decide (t = { s with ccr := ccrOf 0 0 1 1 0 1, pc := 0x6E01 }))),
    -- T103: `ASR $01,SP`
    (let s := start [0x9E, 0x67, 0x01] [(0x00FF, 0x82)] { State.reset with sp := 0x00FE }
     gives (step s) (fun t => decide (t = { s with ccr := ccrOf 1 0 1 1 0 0, pc := 0x6E03, mem := written [(0x00FF, 0xC1)] s.mem }))),
    -- T105: `LSRA`
    (let s := start [0x44] [] { State.reset with a := 0x80, ccr := ccrOf 0 0 1 1 0 0 }
     gives (step s) (fun t => decide (t = { s with a := 0x40, ccr := ccrOf 0 0 1 0 0 0, pc := 0x6E01 }))),
    -- T106: `LSR $02,X`
    (let s := start [0x64, 0x02] [(0x0052, 0xFF)] { State.reset with x := 0x50 }
     gives (step s) (fun t => decide (t = { s with ccr := ccrOf 1 0 1 0 0 1, pc := 0x6E02, mem := written [(0x0052, 0x7F)] s.mem }))),
    -- T108: `ROLA`
    (let s := start [0x49] [] { State.reset with ccr := ccrOf 0 0 1 0 0 1 }
     gives (step s) (fun t => decide (t = { s with a := 0x01, ccr := ccrOf 0 0 1 0 0 0, pc := 0x6E01 }))),
    -- T109: `ROLX`
    (let s := start [0x59] [] { State.reset with x := 0x55, ccr := ccrOf 0 0 1 0 0 1 }
     gives (step s) (fun t => decide (t = { s with x := 0xAB, ccr := ccrOf 1 0 1 1 0 0, pc := 0x6E01 }))),
    -- T111: `RORA`
    (let s := start [0x46] [] { State.reset with ccr := ccrOf 0 0 1 0 0 1 }
     gives (step s) (fun t => decide (t = { s with a := 0x80, ccr := ccrOf 1 0 1 1 0 0, pc := 0x6E01 }))),
    -- T112: `ROR ,X`
    (let s := start [0x76] [(0x0050, 0x03)] { State.reset with x := 0x50, ccr := ccrOf 0 0 1 0 0 1 }
     gives (step s) (fun t => decide (t = { s with ccr := ccrOf 0 0 1 1 0 1, pc := 0x6E01, mem := written [(0x0050, 0x81)] s.mem })))
    ].all id = true := by rfl

theorem test_logic : [
    -- T114: `AND $50`
    (let s := start [0xB4, 0x50] [(0x0050, 0x80)] { State.reset with a := 0xFF }
     gives (step s) (fun t => decide (t = { s with a := 0x80, ccr := ccrOf 0 0 1 1 0 0, pc := 0x6E02 }))),
    -- T116: `ORA $0150`
    (let s := start [0xCA, 0x01, 0x50] [(0x0150, 0x80)] { State.reset with a := 0x01 }
     gives (step s) (fun t => decide (t = { s with a := 0x81, ccr := ccrOf 0 0 1 1 0 0, pc := 0x6E03 }))),
    -- T117: `EOR #$80`
    (let s := start [0xA8, 0x80] [] { State.reset with a := 0xF4 }
     gives (step s) (fun t => decide (t = { s with a := 0x74, pc := 0x6E02 }))),
    -- T119: `COMA`
    (let s := start [0x43] [] { State.reset with a := 0xFF }
     gives (step s) (fun t => decide (t = { s with a := 0x00, ccr := ccrOf 0 0 1 0 1 1, pc := 0x6E01 }))),
    -- T120: `COMX`
    (let s := start [0x53] [] State.reset
     gives (step s) (fun t => decide (t = { s with x := 0xFF, ccr := ccrOf 0 0 1 1 0 1, pc := 0x6E01 }))),
    -- T121: `COM $50`
    (let s := start [0x33, 0x50] [(0x0050, 0x55)] State.reset
     gives (step s) (fun t => decide (t = { s with ccr := ccrOf 0 0 1 1 0 1, pc := 0x6E02, mem := written [(0x0050, 0xAA)] s.mem })))
    ].all id = true := by rfl

theorem test_compare : [
    -- T124: `CMP #$01`
    (let s := start [0xA1, 0x01] [] { State.reset with a := 0x80 }
     gives (step s) (fun t => decide (t = { s with ccr := ccrOf 1 0 1 0 0 0, pc := 0x6E02 }))),
    -- T125: `CMP $01,SP`
    (let s := start [0x9E, 0xE1, 0x01] [(0x00FF, 0xFB)] { State.reset with a := 0x05, sp := 0x00FE }
     gives (step s) (fun t => decide (t = { s with ccr := ccrOf 0 0 1 0 0 1, pc := 0x6E03 }))),
    -- T126: `CPX #$FF`
    (let s := start [0xA3, 0xFF] [] State.reset
     gives (step s) (fun t => decide (t = { s with ccr := ccrOf 0 0 1 0 0 1, pc := 0x6E02 }))),
    -- T127: `CPX $50`
    (let s := start [0xB3, 0x50] [(0x0050, 0x80)] { State.reset with x := 0x7F }
     gives (step s) (fun t => decide (t = { s with ccr := ccrOf 1 0 1 1 0 1, pc := 0x6E02 }))),
    -- T131: `CPHX #$0002`
    (let s := start [0x65, 0x00, 0x02] [] { State.reset with x := 0xFF, h := 0xFF }
     gives (step s) (fun t => decide (t = { s with ccr := ccrOf 0 0 1 1 0 0, pc := 0x6E03 }))),
    -- T132: `CPHX $FF`
    (let s := start [0x75, 0xFF] [(0x00FF, 0x12), (0x0100, 0x01)] { State.reset with h := 0x12 }
     gives (step s) (fun t => decide (t = { s with ccr := ccrOf 0 0 1 1 0 1, pc := 0x6E02 }))),
    -- T133: `BIT #$80`
    (let s := start [0xA5, 0x80] [] { State.reset with a := 0xFF, ccr := ccrOf 1 0 1 0 0 0 }
     gives (step s) (fun t => decide (t = { s with ccr := ccrOf 0 0 1 1 0 0, pc := 0x6E02 }))),
    -- T135: `TSTA`
    (let s := start [0x4D] [] { State.reset with ccr := ccrOf 1 0 1 0 0 1 }
     gives (step s) (fun t => decide (t = { s with ccr := ccrOf 0 0 1 0 1 1, pc := 0x6E01 }))),
    -- T136: `TSTX`
    (let s := start [0x5D] [] { State.reset with x := 0x80 }
     gives (step s) (fun t => decide (t = { s with ccr := ccrOf 0 0 1 1 0 0, pc := 0x6E01 }))),
    -- T137: `TST $50`
    (let s := start [0x3D, 0x50] [(0x0050, 0x80)] State.reset
     gives (step s) (fun t => decide (t = { s with ccr := ccrOf 0 0 1 1 0 0, pc := 0x6E02 }))),
    -- T139: `BRSET 7,$50,$6E10`
    (let s := start [0x0E, 0x50, 0x0D] [(0x0050, 0x7F)] { State.reset with ccr := ccrOf 0 0 1 0 0 1 }
     gives (step s) (fun t => decide (t = { s with ccr := ccrOf 0 0 1 0 0 0, pc := 0x6E03 }))),
    -- T140: `BRSET 3,$50,$6E00`
    (let s := start [0x06, 0x50, 0xFD] [(0x0050, 0x08)] State.reset
     gives (step s) (fun t => decide (t = { s with ccr := ccrOf 0 0 1 0 0 1, pc := 0x6E00 }))),
    -- T142: `BRCLR 7,$50,$6DF0`
    (let s := start [0x0F, 0x50, 0xED] [(0x0050, 0x80)] State.reset
     gives (step s) (fun t => decide (t = { s with ccr := ccrOf 0 0 1 0 0 1, pc := 0x6E03 }))),
    -- T143: `BRCLR 4,$50,$6D83`
    (let s := start [0x09, 0x50, 0x80] [(0x0050, 0x00)] State.reset
     gives (step s) (fun t => decide (t = { s with pc := 0x6D83 })))
    ].all id = true := by rfl

theorem test_branches_1 : [
    -- T145: `BRA $6DF2`
    (let s := start [0x20, 0xF0] [] State.reset
     gives (step s) (fun t => decide (t = { s with pc := 0x6DF2 }))),
    -- T149: `BRN $6E20`
    (let s := start [0x21, 0x1E] [] State.reset
     gives (step s) (fun t => decide (t = { s with pc := 0x6E02 }))),
    -- T150: `BEQ $6E10`
    (let s := start [0x27, 0x0E] [] { State.reset with ccr := ccrOf 0 0 1 0 1 0 }
     gives (step s) (fun t => decide (t = { s with pc := 0x6E10 }))),
    -- T152: `BNE $6E10`
    (let s := start [0x26, 0x0E] [] State.reset
     gives (step s) (fun t => decide (t = { s with pc := 0x6E10 }))),
    -- T155: `BPL $6E10`
    (let s := start [0x2A, 0x0E] [] { State.reset with ccr := ccrOf 0 0 1 1 0 0 }
     gives (step s) (fun t => decide (t = { s with pc := 0x6E02 }))),
    -- T156: `BMI $6E10`
    (let s := start [0x2B, 0x0E] [] { State.reset with ccr := ccrOf 0 0 1 1 0 0 }
     gives (step s) (fun t => decide (t = { s with pc := 0x6E10 }))),
    -- T159: `BCC $6E10`
    (let s := start [0x24, 0x0E] [] { State.reset with ccr := ccrOf 0 0 1 0 0 1 }
     gives (step s) (fun t => decide (t = { s with pc := 0x6E02 }))),
    -- T160: `BCS $6E10`
    (let s := start [0x25, 0x0E] [] { State.reset with ccr := ccrOf 0 0 1 0 0 1 }
     gives (step s) (fun t => decide (t = { s with pc := 0x6E10 })))
    ].all id = true := by rfl

theorem test_branches_2 : [
    -- T163: `BHCC $6E10`
    (let s := start [0x28, 0x0E] [] { State.reset with ccr := ccrOf 0 1 1 0 0 0 }
     gives (step s) (fun t => decide (t = { s with pc := 0x6E02 }))),
    -- T164: `BHCS $6E10`
    (let s := start [0x29, 0x0E] [] { State.reset with ccr := ccrOf 0 1 1 0 0 0 }
     gives (step s) (fun t => decide (t = { s with pc := 0x6E10 }))),
    -- T166: `BMC $6E10`
    (let s := start [0x2C, 0x0E] [] { State.reset with ccr := ccrOf 0 0 0 0 0 0 }
     gives (step s) (fun t => decide (t = { s with pc := 0x6E10 }))),
    -- T168: `BMS $6E10`
    (let s := start [0x2D, 0x0E] [] State.reset
     gives (step s) (fun t => decide (t = { s with pc := 0x6E10 }))),
    -- T178: `BHI $6E10`
    (let s := start [0x22, 0x0E] [] { State.reset with ccr := ccrOf 0 0 1 0 1 1 }
     gives (step s) (fun t => decide (t = { s with pc := 0x6E02 }))),
    -- T175: `BLS $6E10`
    (let s := start [0x23, 0x0E] [] { State.reset with ccr := ccrOf 0 0 1 0 1 0 }
     gives (step s) (fun t => decide (t = { s with pc := 0x6E10 }))),
    -- T181: `BIH $6E10`
    (let s := start [0x2F, 0x0E] [] { State.reset with irqPin := false }
     gives (step s) (fun t => decide (t = { s with pc := 0x6E02 }))),
    -- T182: `BIL $6E10`
    (let s := start [0x2E, 0x0E] [] { State.reset with irqPin := false }
     gives (step s) (fun t => decide (t = { s with pc := 0x6E10 }))),
    -- T185: `BSR $6DF0`
    (let s := start [0xAD, 0xEE] [] { State.reset with sp := 0x0000 }
     gives (step s) (fun t => decide (t = { s with sp := 0xFFFE, pc := 0x6DF0, mem := written [(0x0000, 0x02), (0xFFFF, 0x6E)] s.mem })))
    ].all id = true := by rfl

theorem test_signed_and_loop_branches_1 : [
    -- T190: `BGE $6E10`
    (let s := start [0x90, 0x0E] [] { State.reset with ccr := ccrOf 0 0 1 1 0 0 }
     gives (step s) (fun t => decide (t = { s with pc := 0x6E02 }))),
    -- T192: `BGE $6E10`
    (let s := start [0x90, 0x0E] [] { State.reset with ccr := ccrOf 1 0 1 1 0 0 }
     gives (step s) (fun t => decide (t = { s with pc := 0x6E10 }))),
    -- T195: `BGT $6E10`
    (let s := start [0x92, 0x0E] [] { State.reset with ccr := ccrOf 0 0 1 0 1 0 }
     gives (step s) (fun t => decide (t = { s with pc := 0x6E02 }))),
    -- T200: `BGT $6E10`
    (let s := start [0x92, 0x0E] [] { State.reset with ccr := ccrOf 1 0 1 1 0 0 }
     gives (step s) (fun t => decide (t = { s with pc := 0x6E10 }))),
    -- T207: `BLE $6E10`
    (let s := start [0x93, 0x0E] [] { State.reset with ccr := ccrOf 0 0 1 1 1 0 }
     gives (step s) (fun t => decide (t = { s with pc := 0x6E10 }))),
    -- T208: `BLE $6E10`
    (let s := start [0x93, 0x0E] [] { State.reset with ccr := ccrOf 1 0 1 1 0 0 }
     gives (step s) (fun t => decide (t = { s with pc := 0x6E02 }))),
    -- T212: `BLT $6E10`
    (let s := start [0x91, 0x0E] [] { State.reset with ccr := ccrOf 1 0 1 0 0 0 }
     gives (step s) (fun t => decide (t = { s with pc := 0x6E10 }))),
    -- T216: `BLT $6E10`
    (let s := start [0x91, 0x0E] [] { State.reset with ccr := ccrOf 1 0 1 1 0 0 }
     gives (step s) (fun t => decide (t = { s with pc := 0x6E02 }))),
    -- T219: `CBEQ $50,$6E10`
    (let s := start [0x31, 0x50, 0x0D] [(0x0050, 0x21)] { State.reset with a := 0x20 }
     gives (step s) (fun t => decide (t = { s with pc := 0x6E03 }))),
    -- T220: `CBEQA #$04,$6E10`
    (let s := start [0x41, 0x04, 0x0D] [] { State.reset with a := 0x04 }
     gives (step s) (fun t => decide (t = { s with pc := 0x6E10 })))
    ].all id = true := by rfl

theorem test_signed_and_loop_branches_2 : [
    -- T222: `CBEQX #$02,$6E10`
    (let s := start [0x51, 0x02, 0x0D] [] { State.reset with a := 0x99, x := 0x02 }
     gives (step s) (fun t => decide (t = { s with pc := 0x6E10 }))),
    -- T224: `CBEQ $FF,X+,$6E10`
    (let s := start [0x61, 0xFF, 0x0D] [(0x01FE, 0x00)] { State.reset with a := 0x41, x := 0xFF }
     gives (step s) (fun t => decide (t = { s with x := 0x00, h := 0x01, pc := 0x6E03 }))),
    -- T225: `CBEQ ,X+,$6E00`
    (let s := start [0x71, 0xFE] [(0x0080, 0x20)] { State.reset with a := 0x20, x := 0x80 }
     gives (step s) (fun t => decide (t = { s with x := 0x81, pc := 0x6E00 }))),
    -- T227: `CBEQ $01,SP,$6E10`
    (let s := start [0x9E, 0x61, 0x01, 0x0C] [(0x00FF, 0x77)] { State.reset with a := 0x77, sp := 0x00FE }
     gives (step s) (fun t => decide (t = { s with pc := 0x6E10 }))),
    -- T229: `DBNZ $50,$6E00`
    (let s := start [0x3B, 0x50, 0xFD] [(0x0050, 0x00)] { State.reset with ccr := ccrOf 0 0 1 0 1 0 }
     gives (step s) (fun t => decide (t = { s with pc := 0x6E00, mem := written [(0x0050, 0xFF)] s.mem }))),
    -- T232: `DBNZA $6E00`
    (let s := start [0x4B, 0xFE] [] { State.reset with a := 0x01, ccr := ccrOf 0 0 1 1 0 0 }
     gives (step s) (fun t => decide (t = { s with a := 0x00, pc := 0x6E02 }))),
    -- T233: `DBNZX $6E10`
    (let s := start [0x5B, 0x0E] [] { State.reset with h := 0x12 }
     gives (step s) (fun t => decide (t = { s with x := 0xFF, pc := 0x6E10 }))),
    -- T234: `DBNZ $01,X,$6E10`
    (let s := start [0x6B, 0x01, 0x0D] [(0x0051, 0x80)] { State.reset with x := 0x50 }
     gives (step s) (fun t => decide (t = { s with pc := 0x6E10, mem := written [(0x0051, 0x7F)] s.mem }))),
    -- T235: `DBNZ ,X,$6E10`
    (let s := start [0x7B, 0x0E] [(0x0050, 0x01)] { State.reset with x := 0x50 }
     gives (step s) (fun t => decide (t = { s with pc := 0x6E02, mem := written [(0x0050, 0x00)] s.mem }))),
    -- T236: `DBNZ $01,SP,$6E00`
    (let s := start [0x9E, 0x6B, 0x01, 0xFC] [(0x00FF, 0x03)] { State.reset with sp := 0x00FE }
     gives (step s) (fun t => decide (t = { s with pc := 0x6E00, mem := written [(0x00FF, 0x02)] s.mem })))
    ].all id = true := by rfl

theorem test_jump_and_control_1 : [
    -- T237: `JMP $50`
    (let s := start [0xBC, 0x50] [] State.reset
     gives (step s) (fun t => decide (t = { s with pc := 0x0050 }))),
    -- T239: `JMP $6E10,X`
    (let s := start [0xDC, 0x6E, 0x10] [] { State.reset with x := 0x06 }
     gives (step s) (fun t => decide (t = { s with pc := 0x6E16 }))),
    -- T240: `JMP $10,X`
    (let s := start [0xEC, 0x10] [] { State.reset with x := 0x40, h := 0x6E }
     gives (step s) (fun t => decide (t = { s with pc := 0x6E50 }))),
    -- T244: `JSR $0100,X`
    (let s := start [0xDD, 0x01, 0x00] [] { State.reset with h := 0x6F }
     gives (step s) (fun t => decide (t = { s with sp := 0x00FD, pc := 0x7000, mem := written [(0x00FE, 0x6E), (0x00FF, 0x03)] s.mem }))),
    -- T246: `JSR ,X`
    (let s := start [0xFD] [] { State.reset with h := 0x6F, sp := 0x0000 }
     gives (step s) (fun t => decide (t = { s with sp := 0xFFFE, pc := 0x6F00, mem := written [(0x0000, 0x01), (0xFFFF, 0x6E)] s.mem }))),
    -- T248: `RTS`
    (let s := start [0x81] [(0x0000, 0x12), (0x0001, 0x34)] { State.reset with sp := 0xFFFF }
     gives (step s) (fun t => decide (t = { s with sp := 0x0001, pc := 0x1234 }))),
    -- T249: `SEC`
    (let s := start [0x99] [] State.reset
     gives (step s) (fun t => decide (t = { s with ccr := ccrOf 0 0 1 0 0 1, pc := 0x6E01 }))),
    -- T250: `CLC`
    (let s := start [0x98] [] { State.reset with ccr := ccrOf 0 0 1 0 0 1 }
     gives (step s) (fun t => decide (t = { s with ccr := ccrOf 0 0 1 0 0 0, pc := 0x6E01 }))),
    -- T251: `CLI`
    (let s := start [0x9A] [] State.reset
     gives (step s) (fun t => decide (t = { s with ccr := ccrOf 0 0 0 0 0 0, pc := 0x6E01 }))),
    -- T252: `SEI`
    (let s := start [0x9B] [] { State.reset with ccr := ccrOf 0 0 0 0 0 0 }
     gives (step s) (fun t => decide (t = { s with ccr := ccrOf 0 0 1 0 0 0, pc := 0x6E01, seiWindow := true })))
    ].all id = true := by rfl

theorem test_jump_and_control_2 : [
    -- T253: `SWI`
    (let s := start [0x83] [(0xFFFC, 0x6F), (0xFFFD, 0x00)] { State.reset with a := 0x11, x := 0x22, h := 0x33, ccr := ccrOf 1 0 0 0 0 1 }
     gives (step s) (fun t => decide (t = { s with sp := 0x00FA, ccr := ccrOf 1 0 1 0 0 1, pc := 0x6F00, mem := written [(0x00FB, 0xE1), (0x00FC, 0x11), (0x00FD, 0x22), (0x00FE, 0x6E), (0x00FF, 0x01)] s.mem }))),
    -- T255: `RTI`
    (let s := start [0x80] [(0x00FB, 0xE1), (0x00FC, 0x11), (0x00FD, 0x22), (0x00FE, 0x6E), (0x00FF, 0x01)] { State.reset with sp := 0x00FA }
     gives (step s) (fun t => decide (t = { s with a := 0x11, x := 0x22, sp := 0x00FF, ccr := ccrOf 1 0 0 0 0 1, pc := 0x6E01 }))),
    -- T257: `RSP`
    (let s := start [0x9C] [] { State.reset with sp := 0x1234 }
     gives (step s) (fun t => decide (t = { s with sp := 0x12FF, pc := 0x6E01 }))),
    -- T258: `NOP`
    (let s := start [0x9D] [] State.reset
     gives (step s) (fun t => decide (t = { s with pc := 0x6E01 }))),
    -- T259: `WAIT`
    (let s := start [0x8F] [] State.reset
     gives (step s) (fun t => decide (t = { s with ccr := ccrOf 0 0 0 0 0 0, pc := 0x6E01, run := .waiting }))),
    -- T260: `STOP`
    (let s := start [0x8E] [] State.reset
     gives (step s) (fun t => decide (t = { s with ccr := ccrOf 0 0 0 0 0 0, pc := 0x6E01, run := .stopped }))),
    -- T261: `TAP`
    (let s := start [0x84] [] { State.reset with a := 0x9F, ccr := ccrOf 0 0 0 0 0 0 }
     gives (step s) (fun t => decide (t = { s with ccr := ccrOf 1 1 1 1 1 1, pc := 0x6E01 }))),
    -- T264: `TPA`
    (let s := start [0x85] [] { State.reset with ccr := ccrOf 1 1 1 1 1 1 }
     gives (step s) (fun t => decide (t = { s with a := 0xFF, pc := 0x6E01 }))),
    -- T267: `TXS`
    (let s := start [0x94] [] { State.reset with h := 0x10 }
     gives (step s) (fun t => decide (t = { s with sp := 0x0FFF, pc := 0x6E01 }))),
    -- T269: `TSX`
    (let s := start [0x95] [] { State.reset with sp := 0x0FFF }
     gives (step s) (fun t => decide (t = { s with h := 0x10, pc := 0x6E01 })))
    ].all id = true := by rfl

/-! ### Stops, interrupts, low power, reset -/

/-- X1: byte `32` -/
theorem test_illegal_X1 : faults (step (start [0x32] [] State.reset)) (.illegalOpcode 0x6E00 [0x32]) = true := by rfl

/-- X9: bytes `9E A6` -/
theorem test_illegal_X9 : faults (step (start [0x9E, 0xA6] [] State.reset)) (.illegalOpcode 0x6E00 [0x9E, 0xA6]) = true := by rfl

/-- X12: STA to ROM -/
theorem test_rom_X12 : faults (step (start [0xC7, 0xE0, 0x00] [] mapped)) (.writeToRom 0xE000) = true := by rfl

/-- X13: a byte nothing has written is one fixed unknown, and the instruction runs. -/
theorem test_unwritten_X13 : ∃ t, step (start [0xB6, 0x50] [] State.reset) = .next t ∧ t.a = Config.unwritten 0x50 :=
  ⟨_, rfl, rfl⟩

/-- X14: LDA from an unimplemented address -/
theorem test_unimplemented_X14 : faults (step (start [0xC6, 0x30, 0x00] [] mapped)) (.illegalAddress 0x3000) = true := by rfl

/-- X15: LDA from an IO address -/
theorem test_io_X15 :
    gives (step (start [0xB6, 0x00] [] mapped)) (fun t => t.draws == 1 && t.pc == 0x6E02 && !t.ccr.v
      && t.ioTrace.length == 1) = true := by rfl

/-- X16: a fetch from an IO address, after the JMP -/
theorem test_fetch_X16 : refuses (step { mapped with pc := 0x0000 }) (.fetchFromIo 0x0000) = true := by rfl

/-- X17's boundary. -/
def atX17 (i : Nat) : State :=
  start [0x9D] [(0xFFFA, 0x70), (0xFFFB, 0x00)]
    { State.reset with
      pc := 0x6E10, a := 0x11, x := 0x22, h := 0x33, sp := 0x01FF, ccr := ccrOf 1 0 i 0 0 1, pending := [.irq] }

/-- X17 -/
theorem test_interrupt_X17 :
    (let s := atX17 0
     gives (step s) (fun t => decide (t =
      { s with
        sp := 0x01FA, pc := 0x7000, ccr := ccrOf 1 0 1 0 0 1, pending := []
        mem := written [(0x01FF, 0x10), (0x01FE, 0x6E), (0x01FD, 0x22), (0x01FC, 0x11), (0x01FB, 0xE1)] s.mem }))) = true := by rfl

/-- X18 -/
theorem test_masked_X18 :
    (let s := atX17 1
     gives (step s) (fun t => decide (t = { s with pc := 0x6E11 }))) = true := by rfl

/-- X19: the boundary after CLI -/
theorem test_after_cli_X19 :
    gives (Sys2Proof.core.run 2 (start [0x9A] [(0xFFFA, 0x70), (0xFFFB, 0x00)] { State.reset with pending := [.irq] }))
      (fun t => t.pc == 0x7000 && t.peek 0x00FF == 0x01 && t.peek 0x00FB == 0x60) = true := by rfl

/-- X20, X21: SEI opens the late window only where it found I clear. -/
theorem test_sei_window_X20 :
    gives (exec .sei { State.reset with ccr := ccrOf 0 0 0 0 0 0 }) (fun t => t.seiWindow && t.ccr.i) = true := by rfl

theorem test_sei_window_X21 : gives (exec .sei State.reset) (fun t => !t.seiWindow && t.ccr.i) = true := by rfl

/-- X25: WAIT, then the interrupt at once -/
theorem test_wait_X25 :
    gives (Sys2Proof.core.run 2 (start [0x8F] [(0xFFFA, 0x70), (0xFFFB, 0x00)] { State.reset with pending := [.irq] }))
      (fun t => t.pc == 0x7000 && t.run == .running && t.peek 0x00FF == 0x01 && t.peek 0x00FB == 0x60) = true := by rfl

/-- X27: STOP, then the IRQ pin; an on-chip source does not end it. -/
theorem test_stop_X27 :
    (let s := start [0x8E] [(0xFFFA, 0x70), (0xFFFB, 0x00)]
      { State.reset with
        params := { Config.conventional with sources := [(.irq, 0xFFFA), (.onChip 0, 0xFFF8)] }
        inputs := [⟨false, true, [], []⟩, ⟨false, true, [.onChip 0], []⟩, ⟨false, false, [.irq], []⟩] }
     gives (Sys2Proof.core.run 2 s) (fun t => t.run == .stopped && t.pc == 0x6E01)
       && gives (Sys2Proof.core.run 3 s) (fun t => t.run == .running && t.pc == 0x7000 && !t.irqPin)) = true := by rfl

/-- X29, X30: reset from STOPPED -/
theorem test_reset_X30 :
    gives (step (start [] [(0xFFFE, 0x6E), (0xFFFF, 0x00)]
        { State.reset with run := .stopped, pc := 0x1234, sp := 0x0040, inputs := [⟨true, true, [], []⟩] }))
      (fun t => t.pc == 0x6E00 && t.sp == 0x00FF && t.h == 0 && t.ccr.i && t.run == .running) = true := by rfl

/-- A table word at PC is the next instruction that runs: `LDA #$80`, and the page-2 word `9E E6` with operand `00`. -/
theorem test_withFetchWord : decodeTableWord 16 0x80A6 = some (.ldaImm 0x80) ∧ decodeTableWord 16 0x9EE6 = some (.ldaSp1 0) := by
  decide +kernel

/-! ### Witnesses: states and operands that meet the hypotheses of the statements -/

theorem witness_DecodeOfEncode : (Instr.dbnzSp1 0xFF 0x80).wellFormed = true ∧ Instr.swi.wellFormed = true := by decide

theorem witness_EncodeOfDecode :
    decode [0x9E, 0x6B, 0xFF, 0x80] = .instr (.dbnzSp1 0xFF 0x80) 4 ∧ decode [0x83, 0x00] = .instr .swi 1 := by decide

theorem witness_UnassignedOpcodes : decode [0xAC] = .illegal [0xAC] ∧ decode [0x9E, 0xFF, 0x00] = .illegal [0x9E, 0xFF] := by
  decide

/-- An instruction at PC; and one whose bytes wrap at the end of the address space. -/
theorem witness_StepRunsDecoded_runs :
    (let s := start [0x9E, 0x6B, 0x01, 0xFC] [] State.reset
     boundary s = (.execute, s) ∧ s.fetchableRange s.pc 4 = true ∧ s.bytesAt s.pc 4 = encode (.dbnzSp1 0x01 0xFC)) ∧
    (let s := start [0xCC, 0x12, 0x34] [] { State.reset with pc := 0xFFFE }
     boundary s = (.execute, s) ∧ s.fetchableRange s.pc 3 = true ∧ s.bytesAt s.pc 3 = encode (.jmpExt 0x1234)) := by
  decide +kernel

/-- Nothing pending; and a request that I masks. -/
theorem witness_StepRunsDecoded_boundary :
    (State.reset.inputs = [] ∧ State.reset.run = .running ∧ State.reset.pending = []) ∧
    (let s := { State.reset with pending := [.irq] }
     s.inputs = [] ∧ s.run = .running ∧ s.ccr.i = true ∧ s.seiWindow = false) := by decide

/-- A stop at the first byte, at each end of the IO and of the unimplemented region; at the second, third and fourth. -/
theorem witness_StepStops_kinds :
    ([0x0000, 0x003F].all (fun a =>
        let s := { mapped with pc := a }
        decide (boundary s = (.execute, s) ∧ decode (s.bytesAt s.pc 0) = .short ∧ s.kindAt s.pc = .io))
      && [0x3000, 0x3FFF].all (fun a =>
        let s := { mapped with pc := a }
        decide (boundary s = (.execute, s) ∧ decode (s.bytesAt s.pc 0) = .short ∧ s.kindAt s.pc = .unimplemented))
      && [([0x9E], 1), ([0xCC, 0x12], 2), ([0x9E, 0xD6, 0x12], 3)].all (fun c =>
        let s := start c.1 [] { mapped with pc := 0x0000 - BitVec.ofNat 16 c.2 }
        let u := start c.1 [] { mapped with pc := 0x3000 - BitVec.ofNat 16 c.2 }
        decide (boundary s = (.execute, s) ∧ s.fetchableRange s.pc c.2 = true ∧ decode (s.bytesAt s.pc c.2) = .short ∧
          s.kindAt (s.pc + BitVec.ofNat 16 c.2) = .io)
        && decide (boundary u = (.execute, u) ∧ u.fetchableRange u.pc c.2 = true ∧ decode (u.bytesAt u.pc c.2) = .short ∧
          u.kindAt (u.pc + BitVec.ofNat 16 c.2) = .unimplemented))) = true := by rfl

/-- An unassigned byte and an unassigned pair, where they fault and where they reset. -/
theorem witness_StepStops_illegal : ∀ resets ∈ [false, true],
    (let s := start [0x32] [] { State.reset with params := { Config.conventional with illegalOpcodeResets := resets } }
     boundary s = (.execute, s) ∧ s.fetchable s.pc ∧ s.peek s.pc = 0x32) ∧
    (let s := start [0x9E, 0xFF] [] { State.reset with params := { Config.conventional with illegalOpcodeResets := resets } }
     boundary s = (.execute, s) ∧ s.fetchable s.pc ∧ s.peek s.pc = 0x9E ∧ s.fetchable (s.pc + 1) ∧
      decode [0x9E, s.peek (s.pc + 1)] = .illegal [0x9E, 0xFF]) := by decide +kernel

/-- One address of each kind at each end of its region: the hypotheses of ByteReadByKind and ByteWriteByKind. -/
theorem witness_ByteByKind :
    mapped.kindAt 0x0000 = .io ∧ mapped.kindAt 0x003F = .io ∧ mapped.kindAt 0x0040 = .ram ∧ mapped.kindAt 0x2FFF = .ram ∧
    mapped.kindAt 0x3000 = .unimplemented ∧ mapped.kindAt 0x3FFF = .unimplemented ∧ mapped.kindAt 0x4000 = .ram ∧
    mapped.kindAt 0xDFFF = .ram ∧ mapped.kindAt 0xE000 = .rom ∧ mapped.kindAt 0xFFFF = .rom := by decide

/-- At the end of the address space, where the second byte is `$0000`. -/
theorem witness_WordBigEndian :
    State.reset.kindAt 0xFFFF = .ram ∧ State.reset.kindAt (0xFFFF + 1) = .ram ∧ (0xFFFF + 1 : Word) = 0 := by decide

/-- An immediate, RAM, ROM and IO: the hypothesis of the statements over source operands (LoadResult, AddResult,
SubResult, LogicResult, CompareResult, TestResult). -/
theorem witness_srcReadable :
    srcReadable (.imm 0xFF) mapped ∧ srcReadable (.mem (.dir 0xFF)) mapped ∧ srcReadable (.mem (.dir 0x00)) mapped ∧
    srcReadable (.mem (.ext 0xFFFF)) mapped ∧ srcReadable (.mem (.sp2 0xFFFF)) mapped ∧
    srcReadable (.mem .ix) mapped :=
  ⟨trivial, by show mapped.readable _; decide, by show mapped.readable _; decide, by show mapped.readable _; decide,
    by show mapped.readable _; decide, by show mapped.readable _; decide⟩

/-- The accumulator, the index register, RAM and IO: the hypothesis of the statements over places (ClearResult,
DecIncNegResult, ShiftResult, LogicResult, DbnzResult). -/
theorem witness_placeWritable :
    placeWritable .a mapped ∧ placeWritable .x mapped ∧ placeWritable (.dir 0xFF) mapped ∧ placeWritable (.dir 0x00) mapped ∧
    placeWritable (.ix1 0xFF) mapped ∧ placeWritable .ix mapped ∧ placeWritable (.sp1 0x01) mapped :=
  ⟨trivial, trivial, by show mapped.writable _; decide, by show mapped.writable _; decide,
    by show mapped.writable _; decide, by show mapped.writable _; decide, by show mapped.writable _; decide⟩

/-- TestResult's places, in ROM too. -/
theorem witness_placeReadable :
    placeReadable .a mapped ∧ placeReadable .x mapped ∧ placeReadable (.dir 0x00) mapped ∧
    placeReadable .ix { mapped with h := 0xFF, x := 0xFF } :=
  ⟨trivial, trivial, by show mapped.readable _; decide, by show State.readable { mapped with h := 0xFF, x := 0xFF } _; decide⟩

/-- StoreResult: RAM and IO. -/
theorem witness_StoreResult : mapped.writable (eaOf (.dir 0xFF) mapped) ∧ mapped.writable (eaOf .ix mapped) ∧
    mapped.writable (eaOf (.ext 0xDFFF) mapped) := by decide

/-- LdhxSthxResult, CompareResult (CPHX): the pair of addresses `$FF`, `$100`, and a pair that ends in IO. -/
theorem witness_LdhxSthxResult :
    mapped.readable (zext16 0xFF) ∧ mapped.readable (zext16 0xFF + 1) ∧ mapped.writable (zext16 0xFF) ∧
    mapped.writable (zext16 0xFF + 1) ∧ mapped.readable (zext16 0x3F) ∧ mapped.writable (zext16 0x3F) := by decide

/-- MovResult: each clause, with H:X at `$FFFF`. -/
theorem witness_MovResult :
    (let s := { State.reset with h := 0xFF, x := 0xFF }
     s.readable (zext16 0x00) ∧ s.writable (zext16 0xFF) ∧ s.readable s.hx ∧ s.writable s.hx ∧ s.hx = 0xFFFF) := by decide

/-- PushResult, CallResult: SP at `$0000`, so that it wraps. -/
theorem witness_PushResult :
    (let s := { State.reset with sp := 0x0000 }
     s.writable s.sp ∧ s.writable (s.sp - 1)) ∧ State.reset.writable State.reset.sp := by decide

/-- PullResult, JmpRtsResult: SP at `$FFFF`, so that it wraps; in IO too. -/
theorem witness_PullResult :
    (let s := { mapped with sp := 0xFFFF }
     s.readable (s.sp + 1) ∧ s.readable (s.sp + 2) ∧ s.kindAt (s.sp + 1) = .io) := by decide

/-- BitSetClear and BitBranchResult: the ends of the direct page. -/
theorem witness_BitSetClear : mapped.writable (zext16 0x00) ∧ mapped.writable (zext16 0xFF) ∧
    mapped.readable (zext16 0x00) ∧ mapped.readable (zext16 0xFF) := by decide

/-- The nine rows of Table 5-2 as DaaResult writes them. -/
def daaRows : List (Bool × Nat × Nat × Bool × Nat × Nat × Byte × Bool) :=
  [(false, 0, 9, false, 0, 9, 0x00, false), (false, 0, 8, false, 10, 15, 0x06, false),
    (false, 0, 9, true, 0, 3, 0x06, false), (false, 10, 15, false, 0, 9, 0x60, true),
    (false, 9, 15, false, 10, 15, 0x66, true), (false, 10, 15, true, 0, 3, 0x66, true),
    (true, 0, 2, false, 0, 9, 0x60, true), (true, 0, 2, false, 10, 15, 0x66, true),
    (true, 0, 3, true, 0, 3, 0x66, true)]

/-- DaaResult's premise for one row. -/
def daaFits (s : State) (r : Bool × Nat × Nat × Bool × Nat × Nat × Byte × Bool) : Bool :=
  decide (s.ccr.c = r.1 ∧ r.2.1 ≤ s.a.toNat / 16 ∧ s.a.toNat / 16 ≤ r.2.2.1 ∧ s.ccr.hf = r.2.2.2.1 ∧
    r.2.2.2.2.1 ≤ s.a.toNat % 16 ∧ s.a.toNat % 16 ≤ r.2.2.2.2.2.1)

/-- DaaResult: at the lowest and at the highest A of each row that row fits and no other; and `$15` with the half carry,
which no row fits (T66). -/
theorem witness_DaaResult :
    (daaRows.all (fun r =>
      [r.2.1 * 16 + r.2.2.2.2.1, r.2.2.1 * 16 + r.2.2.2.2.2.1].all (fun a =>
        let s := { State.reset with a := BitVec.ofNat 8 a, ccr := { State.reset.ccr with c := r.1, hf := r.2.2.2.1 } }
        daaFits s r && (daaRows.filter (daaFits s)).length == 1))
      && (daaRows.filter (daaFits { State.reset with a := 0x15, ccr := ccrOf 0 1 1 0 0 0 })).isEmpty) = true := by rfl

/-- DivResult: H just below X; H equal to X; a divisor of 0. -/
theorem witness_DivResult :
    (let s := { State.reset with h := 0xFE, x := 0xFF, a := 0xFF }; s.h.toNat < s.x.toNat) ∧
    (let s := { State.reset with h := 0xFF, x := 0xFF }; s.x.toNat ≤ s.h.toNat) ∧
    (State.reset.x.toNat ≤ State.reset.h.toNat ∧ State.reset.x = 0) := by decide

/-- CbeqResult: each clause, in ROM and in IO. -/
theorem witness_CbeqResult :
    (let s := { mapped with h := 0xFF, x := 0xFF, sp := 0xFF00 }
     s.readable (zext16 0x00) ∧ s.readable (s.hx + zext16 0xFF) ∧ s.readable s.hx ∧ s.readable (s.sp + zext16 0xFF)) := by
  decide

/-- SwiResult, CompletesIfAccessesAllowed: the stack in RAM, the vector in ROM; and all of it readable by RTI. -/
theorem witness_SwiResult :
    (∀ x ∈ accesses .swi mapped, x.allowed mapped = true) ∧ mapped.kindAt 0xFFFC ≠ .io ∧ mapped.kindAt 0xFFFD ≠ .io ∧
    mapped.kindAt mapped.sp = .ram ∧ mapped.kindAt (mapped.sp - 1) = .ram ∧ mapped.kindAt (mapped.sp - 2) = .ram ∧
    mapped.kindAt (mapped.sp - 3) = .ram ∧ mapped.kindAt (mapped.sp - 4) = .ram := by decide

theorem witness_RtiResult :
    (∀ x ∈ accesses .rti mapped, x.allowed mapped = true) ∧ mapped.kindAt (mapped.sp + 1) ≠ .io ∧
    mapped.kindAt (mapped.sp + 2) ≠ .io ∧ mapped.kindAt (mapped.sp + 3) ≠ .io ∧ mapped.kindAt (mapped.sp + 4) ≠ .io ∧
    mapped.kindAt (mapped.sp + 5) ≠ .io := by decide

/-- CompletesIfAccessesAllowed: an access that is not allowed comes first, second, and not at all. -/
theorem witness_CompletesIfAccessesAllowed :
    (accesses (.incSp1 0x00) { mapped with sp := 0xE000 }).find?
      (fun x => !x.allowed { mapped with sp := 0xE000 }) = some (.write 0xE000) ∧
    (accesses (.ldaExt 0x3000) mapped).find? (fun x => !x.allowed mapped) = some (.read 0x3000) ∧
    (accesses .swi mapped).find? (fun x => !x.allowed mapped) = none := by decide

/-- IoAccessesInOrder, MemoryFrame, FlagAndRegisterFrame, EnvironmentFrame: an instruction that reads and writes IO, one
that stores to RAM, one that stores nothing, a transfer. -/
theorem witness_exec_next :
    (∃ t, exec (.incDir 0x00) mapped = .next t) ∧ (∃ t, exec .psha mapped = .next t) ∧
    (∃ t, exec (.cmpImm 0x00) mapped = .next t) ∧ (∃ t, exec (.bra 0x80) mapped = .next t) ∧
    storedAddrs (.cmpImm 0x00) mapped = [] ∧ storedAddrs .psha mapped = [0x00FF] ∧
    (profile (.cmpImm 0x00)).transfer = false :=
  ⟨⟨_, rfl⟩, ⟨_, rfl⟩, ⟨_, rfl⟩, ⟨_, rfl⟩, by decide, by decide, by decide⟩

/-- EnvironmentFrame and InvariantKept: a step from a state of the invariant, and one that takes an interrupt. -/
theorem witness_step_next :
    (State.reset.Inv ∧ ∃ t, step (start [0x9D] [] State.reset) = .next t) ∧
    ((atX17 0).Inv ∧ ∃ t, step (atX17 0) = .next t) :=
  ⟨⟨by decide, _, rfl⟩, by decide, _, rfl⟩

/-- InterruptEntry: X17's boundary, and the same with the stack at the bottom of memory. -/
theorem witness_InterruptEntry :
    [0x01FF, 0x0000].all (fun sp =>
      let s := { atX17 0 with sp := sp }
      decide (takeInput s = (false, s) ∧ s.run = .running ∧ s.ccr.i = false ∧ highest s = some (.irq, 0xFFFA) ∧
        (∀ k : Fin 5, s.writable (s.sp - BitVec.ofNat 16 k)) ∧ s.readable 0xFFFA ∧ s.readable (0xFFFA + 1) ∧
        s.kindAt 0xFFFA ≠ .io ∧ s.kindAt (0xFFFA + 1) ≠ .io ∧ s.kindAt s.sp = .ram ∧ s.kindAt (s.sp - 4) = .ram)) = true := by rfl

/-- MaskAndSeiWindow: the window closed, open with a request, open with none. -/
theorem witness_MaskAndSeiWindow :
    (let s := atX17 1; takeInput s = (false, s) ∧ s.run = .running ∧ s.ccr.i = true ∧ s.seiWindow = false) ∧
    (let s := { atX17 1 with seiWindow := true }
     takeInput s = (false, s) ∧ s.run = .running ∧ s.ccr.i = true ∧ highest s = some (.irq, 0xFFFA) ∧ s.seiWindow = true) ∧
    (let s := { State.reset with seiWindow := true }
     takeInput s = (false, s) ∧ s.run = .running ∧ s.ccr.i = true ∧ highest s = none) := by decide +kernel

/-- WaitingAndStopped: each clause; STOPPED with an on-chip request alone stays. -/
theorem witness_WaitingAndStopped :
    (let p := { Config.conventional with sources := [(.irq, 0xFFFA), (.onChip 0, 0xFFF8)] }
     let s := { State.reset with params := p, ccr := ccrOf 0 0 0 0 0 0, run := .waiting }
     let w := { s with pending := [.onChip 0] }
     let z := { w with run := .stopped }
     let q := { s with run := .stopped, pending := [.irq] }
     (takeInput s = (false, s) ∧ s.ccr.i = false ∧ s.seiWindow = false ∧ highest s = none) ∧
     (takeInput w = (false, w) ∧ highest w = some (.onChip 0, 0xFFF8)) ∧
     (takeInput z = (false, z) ∧ z.run = .stopped ∧ IntSource.irq ∉ z.pending) ∧
     (takeInput q = (false, q) ∧ q.run = .stopped ∧ IntSource.irq ∈ q.pending ∧
      q.params.sources.find? (fun p => p.1 == .irq) = some (.irq, 0xFFFA))) := by decide +kernel

/-- ResetStep: from STOPPED, with every parameter given. -/
theorem witness_ResetStep :
    (let p := { Config.conventional with
        resetA := some 0x12, resetX := some 0x34
        resetCcr := ⟨some true, some false, some true, some false, some true, some false⟩ }
     let s := { State.reset with params := p, run := .stopped, inputs := [⟨true, false, [], []⟩] }
     takeInput s = (true, { s with irqPin := false, inputs := [] }) ∧ s.readable s.params.resetVector ∧
     s.readable (s.params.resetVector + 1) ∧ s.kindAt s.params.resetVector ≠ .io ∧
     s.kindAt (s.params.resetVector + 1) ≠ .io) := by decide +kernel

/-- ReturnUndoesEntry and ReturnUndoesCall: the stack wraps below `$0000`. -/
theorem witness_ReturnUndoes :
    (let s := { State.reset with sp := 0x0000 }
     (∀ k : Fin 5, s.kindAt (s.sp - BitVec.ofNat 16 k) = .ram) ∧ s.kindAt s.sp = .ram ∧ s.kindAt (s.sp - 1) = .ram ∧
     (∃ t, exec .swi s = .next t) ∧ (∃ t, takeInterrupt .irq 0xFFFA s = .ok t) ∧ (∃ t, exec (.bsr 0x80) s = .next t) ∧
     (∃ t, exec (.ofJsr (.ext 0xFFFF)) s = .next t)) :=
  ⟨by decide, by decide, by decide, ⟨_, rfl⟩, ⟨_, rfl⟩, ⟨_, rfl⟩, ⟨_, rfl⟩⟩

/-- CompareThenBranch: every clause, SBC with the carry clear and set, CPHX with the operand at `$FF` and `$100`. -/
theorem witness_CompareThenBranch :
    (∃ t, exec (.ofSrc .cmp (.imm 0x80)) State.reset = .next t) ∧ (∃ t, exec (.ofSrc .sub (.imm 0x01)) State.reset = .next t) ∧
    (∃ t, exec (.ofSrc .cpx (.mem .ix)) State.reset = .next t) ∧ (∃ t, exec (.ofSrc .sbc (.imm 0xFF)) State.reset = .next t) ∧
    (∃ t, exec (.ofSrc .sbc (.imm 0xFF)) { State.reset with ccr := ccrOf 0 0 1 0 0 1 } = .next t) ∧
    (∃ t, exec (.cphxImm 0x8000) State.reset = .next t) ∧ (∃ t, exec (.cphxDir 0xFF) State.reset = .next t) :=
  ⟨⟨_, rfl⟩, ⟨_, rfl⟩, ⟨_, rfl⟩, ⟨_, rfl⟩, ⟨_, rfl⟩, ⟨_, rfl⟩, ⟨_, rfl⟩⟩

/-- BcdAddition: 99 and 99, by ADC with the carry set and by ADD, immediate and from memory. -/
theorem witness_BcdAddition :
    (let s := start [] [(0x0050, 0x99)] { State.reset with a := 0x99, ccr := ccrOf 0 0 1 0 0 1 }
     s.a = BitVec.ofNat 8 (99 / 10 * 16 + 99 % 10) ∧ srcValue (.imm 0x99) s = BitVec.ofNat 8 (99 / 10 * 16 + 99 % 10) ∧
     srcValue (.mem (.dir 0x50)) s = BitVec.ofNat 8 (99 / 10 * 16 + 99 % 10) ∧
     (∃ t, exec (.ofSrc .adc (.imm 0x99)) s = .next t ∧ ∃ u, exec .daa t = .next u) ∧
     (∃ t, exec (.ofSrc .add (.mem (.dir 0x50))) s = .next t ∧ ∃ u, exec .daa t = .next u)) :=
  ⟨by decide, by decide, by decide, ⟨_, rfl, _, rfl⟩, ⟨_, rfl, _, rfl⟩⟩

/-- SBC and the relation of R250 where the operand plus the carry is 256: `$00 - $FF - 1`. -/
theorem test_sbc_then_bls :
    gives (exec (.sbcImm 0xFF) { State.reset with ccr := ccrOf 0 0 1 0 0 1 }) (fun t =>
      t.a == 0 && t.ccr.c && t.ccr.z && gives (exec (.bls 0x10) t) (fun u => u.pc == t.pc + 0x12)) = true := by rfl

/-- EnvironmentFrame: an input that raises one request and withdraws another (R333 (b)); the pin moves by itself (D24). -/
theorem test_takeInput :
    (let s := { State.reset with
        pending := [.onChip 0, .onChip 1]
        inputs := [⟨false, false, [.irq, .onChip 1, .onChip 2], [.onChip 0, .onChip 2]⟩] }
     decide (takeInput s = (false, { s with irqPin := false, pending := [.irq, .onChip 1], inputs := [] }))
       && decide (takeInput State.reset = (false, State.reset))) = true := by rfl

/-- InterruptEntry: the first listed source that is pending (R319), and none where only an unlisted one is (log 25). -/
theorem test_highest :
    (let s := { State.reset with
        params := { Config.conventional with sources := [(.irq, 0xFFFA), (.onChip 0, 0xFFF8), (.onChip 1, 0xFFF6)] } }
     decide (highest { s with pending := [.onChip 1, .onChip 0] } = some (.onChip 0, 0xFFF8))
       && decide (highest { s with pending := [.onChip 7] } = none)) = true := by rfl

end Sys2Proof.Tests
end

section
/-! PROOF. Encoded bytes decode to their instruction (spec/30_encoding.md R83, R84), so that the step at a boundary that
calls for an instruction is the meaning of the instruction at PC (spec/00_scope.md R14, spec/60_exceptions.md R316). -/

namespace Sys2Proof

/-! ### Decoding what was encoded -/

/-- A row with a 16-bit operand puts the two bytes of the operand together again, high byte first (R51). -/
theorem Row.fill_opw_word (f : Word → Instr) (opcode : List Byte) (w : Word) (rest : List Byte) :
    (Row.opw f).fill opcode (hiByte w :: loByte w :: rest) = .instr (f w) (opcode.length + 2) := by
  simp [Row.fill]

/-- The row looked up for an instruction's opcode is the instruction's own constructor: where its operands are bytes
they come back as they stand, and a 16-bit operand comes back from its two halves. -/
theorem decode_encode_append (i : Instr) (rest : List Byte) :
    decode (encode i ++ rest) = .instr i (encode i).length := by
  cases i with
  | ldaExt w | ldaIx2 w | ldaSp2 w | staExt w | staIx2 w | staSp2 w
  | ldxExt w | ldxIx2 w | ldxSp2 w | stxExt w | stxIx2 w | stxSp2 w | ldhxImm w
  | addExt w | addIx2 w | addSp2 w | subExt w | subIx2 w | subSp2 w
  | adcExt w | adcIx2 w | adcSp2 w | sbcExt w | sbcIx2 w | sbcSp2 w
  | andExt w | andIx2 w | andSp2 w | oraExt w | oraIx2 w | oraSp2 w | eorExt w | eorIx2 w | eorSp2 w
  | cmpExt w | cmpIx2 w | cmpSp2 w | cpxExt w | cpxIx2 w | cpxSp2 w | cphxImm w
  | bitExt w | bitIx2 w | bitSp2 w | jmpExt w | jmpIx2 w | jsrExt w | jsrIx2 w =>
    exact Row.fill_opw_word _ _ w rest
  | _ => rfl

theorem decode_encode (i : Instr) : decode (encode i) = .instr i (encode i).length := by
  simpa using decode_encode_append i []

/-! ### Lengths -/

/-- A row adds at most two operand bytes to its opcode. -/
theorem Row.length_le_of_fill {row : Row} {opcode operands : List Byte} {i : Instr} {n : Nat}
    (h : row.fill opcode operands = .instr i n) : n ≤ opcode.length + 2 := by
  unfold Row.fill at h
  split at h <;> cases h <;> omega

/-- No instruction is longer than four bytes (R80). -/
theorem length_le_four_of_decode {bytes : List Byte} {i : Instr} {n : Nat} (h : decode bytes = .instr i n) :
    n ≤ 4 := by
  unfold decode at h
  split at h
  · cases h
  · split at h
    · split at h
      · cases h
      · exact Row.length_le_of_fill h
    · exact Nat.le_succ_of_le (Row.length_le_of_fill h)

theorem length_encode_le_four (i : Instr) : (encode i).length ≤ 4 := length_le_four_of_decode (decode_encode i)

namespace Machine

/-! ### Running the instruction at PC -/

/-- Where the bytes at PC are the encoding of an instruction, the fetch answers it (R83). -/
theorem fetch_of_encode {s : State} {i : Instr} (hr : s.fetchableRange s.pc (encode i).length = true)
    (hb : s.bytesAt s.pc (encode i).length = encode i) : fetch s = .ok (.instr i (encode i).length) :=
  fetch_of_bytes (length_encode_le_four i) (by rw [hb, decode_encode]) (s.length_bytesAt ..) hr

theorem executeNext_of_fetch {s : State} {i : Instr} {n : Nat} (h : fetch s = .ok (.instr i n)) :
    executeNext s = exec i s := by
  simp only [executeNext, h]

theorem step_of_boundary_execute {s s1 : State} (h : boundary s = (.execute, s1)) : step s = executeNext s1 := by
  simp only [step, h, perform]

/-! ### The boundary with a silent environment -/

/-- With a silent environment the move is chosen in the state as it stands (log 15). -/
theorem boundary_of_inputs_nil {s : State} (hi : s.inputs = []) : boundary s = (chooseMove s, s.closeWindow) := by
  simp [boundary, takeInput, hi]

/-- Outside the late window no draw is used. -/
theorem State.closeWindow_of_seiWindow_false {s : State} (hw : s.seiWindow = false) :
    s.closeWindow = { s with seiWindow := false } := by
  simp [State.closeWindow, State.windowOpen, hw]

/-- A request that I masks is not taken outside the late window (R316, R317). -/
theorem chooseMove_of_masked {s : State} (hr : s.run = .running) (hm : s.ccr.i = true) (hw : s.seiWindow = false) :
    chooseMove s = .execute := by
  simp only [chooseMove, hr]
  cases highest s with
  | none => rfl
  | some p => simp [hm, hw]

/-- A boundary with a silent environment and all requests masked. -/
theorem boundary_masked {s : State} (hi : s.inputs = []) (hr : s.run = .running) (hm : s.ccr.i = true)
    (hw : s.seiWindow = false) : boundary s = (.execute, { s with seiWindow := false }) := by
  rw [boundary_of_inputs_nil hi, chooseMove_of_masked hr hm hw, State.closeWindow_of_seiWindow_false hw]

end Machine

end Sys2Proof

namespace Sys2Proof.Proofs

open Sys2Proof Sys2Proof.Machine

/-- Settles O6: the bytes at PC are fetched as the instruction they encode; nothing pending, or all of it masked, leaves
the boundary to the instruction. -/
theorem stepRunsDecoded : Obligations.StepRunsDecoded := by
  refine ⟨fun s s1 i hexec _ hfetchable hbytes => ?_, fun s hi hr htake => ?_⟩
  · rw [step_of_boundary_execute hexec]
    exact executeNext_of_fetch (fetch_of_encode hfetchable hbytes)
  · rcases htake with hpending | ⟨hmasked, hwindow⟩
    · exact boundary_quiet hi hpending hr
    · exact boundary_masked hi hr hmasked hwindow

end Sys2Proof.Proofs
end

section
/-! PROOF. What an instruction leaves as it was: the flags and registers that its profile does not list
(spec/10_state.md R21 to R33), and everything around the registers, the flags and memory (R34 to R36, R39). Each
meaning is composed of byte accesses and updates of single registers, and its effect is composed of theirs. -/

namespace Sys2Proof.Machine

/-! ### What stays around an instruction -/

/-- `t` has the pin, the requests, the environment, the launch, RUN and the late window of `s`, and memory in canonical
form if `s` has. -/
structure SameSurroundings (s t : State) : Prop where
  irqPin : t.irqPin = s.irqPin
  pending : t.pending = s.pending
  inputs : t.inputs = s.inputs
  params : t.params = s.params
  run : t.run = s.run
  seiWindow : t.seiWindow = s.seiWindow
  memWf : s.mem.wf → t.mem.wf

theorem SameSurroundings.refl (s : State) : SameSurroundings s s := ⟨rfl, rfl, rfl, rfl, rfl, rfl, id⟩

theorem SameSurroundings.trans {s t u : State} (h : SameSurroundings s t) (h' : SameSurroundings t u) :
    SameSurroundings s u where
  irqPin := h'.irqPin.trans h.irqPin
  pending := h'.pending.trans h.pending
  inputs := h'.inputs.trans h.inputs
  params := h'.params.trans h.params
  run := h'.run.trans h.run
  seiWindow := h'.seiWindow.trans h.seiWindow
  memWf := h'.memWf ∘ h.memWf

/-- Registers, flags and the draw counter are no part of the surroundings. -/
theorem SameSurroundings.set {s u : State} (h : SameSurroundings s u) {a x hi : Byte} {sp pc : Word} {c : Ccr}
    {d : Nat} : SameSurroundings s { u with a := a, x := x, h := hi, sp := sp, pc := pc, ccr := c, draws := d } :=
  ⟨h.irqPin, h.pending, h.inputs, h.params, h.run, h.seiWindow, h.memWf⟩

theorem sameSurroundings_afterRead (s : State) (a : Word) : SameSurroundings s (s.afterRead a) :=
  ⟨rfl, rfl, rfl, rfl, rfl, rfl, id⟩

theorem sameSurroundings_afterWrite (s : State) (a : Word) (v : Byte) : SameSurroundings s (s.afterWrite a v) :=
  ⟨rfl, rfl, rfl, rfl, rfl, rfl, fun h => State.wf_afterWrite h a v⟩

theorem sameSurroundings_pushed (s : State) (v : Byte) : SameSurroundings s (s.pushed v) :=
  (sameSurroundings_afterWrite s s.sp v).set

/-! ### What moves in an instruction's course -/

theorem RegUse.allows.trans {g : RegUse} {s t u : State} (h : g.allows s t) (h' : g.allows t u) : g.allows s u := by
  obtain ⟨ha, hx, hh, hsp⟩ := h
  obtain ⟨ha', hx', hh', hsp'⟩ := h'
  exact ⟨fun e => (ha' e).trans (ha e), fun e => (hx' e).trans (hx e), fun e => (hh' e).trans (hh e),
    fun e => (hsp' e).trans (hsp e)⟩

/-- On the way from `s` to `u` no register outside `g` has changed, no flag, and nothing around them. -/
structure Moves (g : RegUse) (s u : State) : Prop where
  regs : g.allows s u
  ccr : u.ccr = s.ccr
  surroundings : SameSurroundings s u

namespace Moves

variable {g : RegUse} {s u w : State}

theorem refl : Moves g s s := ⟨⟨fun _ => rfl, fun _ => rfl, fun _ => rfl, fun _ => rfl⟩, rfl, .refl s⟩

theorem trans (h : Moves g s u) (h' : Moves g u w) : Moves g s w :=
  ⟨h.regs.trans h'.regs, h'.ccr.trans h.ccr, h.surroundings.trans h'.surroundings⟩

theorem setA (h : Moves g s u) (v : Byte) (hg : g.a = true := by rfl) : Moves g s { u with a := v } := by
  obtain ⟨⟨-, hx, hh, hsp⟩, hc, hs⟩ := h
  exact ⟨⟨by simp [hg], hx, hh, hsp⟩, hc, hs.set⟩

theorem setX (h : Moves g s u) (v : Byte) (hg : g.x = true := by rfl) : Moves g s { u with x := v } := by
  obtain ⟨⟨ha, -, hh, hsp⟩, hc, hs⟩ := h
  exact ⟨⟨ha, by simp [hg], hh, hsp⟩, hc, hs.set⟩

theorem setH (h : Moves g s u) (v : Byte) (hg : g.h = true := by rfl) : Moves g s { u with h := v } := by
  obtain ⟨⟨ha, hx, -, hsp⟩, hc, hs⟩ := h
  exact ⟨⟨ha, hx, by simp [hg], hsp⟩, hc, hs.set⟩

theorem setSp (h : Moves g s u) (v : Word) (hg : g.sp = true := by rfl) : Moves g s { u with sp := v } := by
  obtain ⟨⟨ha, hx, hh, -⟩, hc, hs⟩ := h
  exact ⟨⟨ha, hx, hh, by simp [hg]⟩, hc, hs.set⟩

theorem setHx (h : Moves g s u) (v : Word) (hh : g.h = true := by rfl) (hx : g.x = true := by rfl) :
    Moves g s (u.setHx v) :=
  (h.setH (hiByte v) hh).setX (loByte v) hx

theorem setDraws {d : Nat} (h : Moves g s u) : Moves g s { u with draws := d } :=
  ⟨h.regs, h.ccr, h.surroundings.set⟩

theorem untouched (h : Moves g s u) : FlagRow.untouched.allows s.ccr u.ccr := by
  rw [h.ccr]
  exact ⟨rfl, rfl, rfl, rfl, rfl, rfl⟩

/-! ### The accesses that an instruction is composed of -/

variable {a v : Word} {b : Byte} {o : Src}

theorem of_readByte (h : readByte a s = .ok (b, u)) : Moves g s u := by
  obtain ⟨-, ⟨⟩⟩ := readByte_eq_ok.mp h
  exact ⟨refl.regs, rfl, sameSurroundings_afterRead s a⟩

theorem of_writeByte (h : writeByte a b s = .ok u) : Moves g s u := by
  obtain ⟨-, rfl⟩ := writeByte_eq_ok.mp h
  exact ⟨refl.regs, rfl, sameSurroundings_afterWrite s a b⟩

theorem of_readWord (h : readWord a s = .ok (v, u)) : Moves g s u := by
  obtain ⟨-, -, ⟨⟩⟩ := readWord_eq_ok.mp h
  exact ⟨refl.regs, rfl, (sameSurroundings_afterRead s a).trans (sameSurroundings_afterRead _ _)⟩

theorem of_writeWord (h : writeWord a v s = .ok u) : Moves g s u := by
  obtain ⟨-, -, rfl⟩ := writeWord_eq_ok.mp h
  exact ⟨refl.regs, rfl, (sameSurroundings_afterWrite s a _).trans (sameSurroundings_afterWrite _ _ _)⟩

theorem pushed (s : State) (b : Byte) (hg : g.sp = true := by rfl) : Moves g s (s.pushed b) :=
  ⟨(refl.setSp _ hg).regs, rfl, sameSurroundings_pushed s b⟩

theorem of_push8 (h : push8 b s = .ok u) (hg : g.sp = true := by rfl) : Moves g s u := by
  obtain ⟨-, rfl⟩ := push8_eq_ok.mp h
  exact pushed s b hg

theorem of_pushWord (h : pushWord v s = .ok u) (hg : g.sp = true := by rfl) : Moves g s u := by
  obtain ⟨s1, h1, h2⟩ := bind_eq_ok.mp h
  exact (of_push8 h1 hg).trans (of_push8 h2 hg)

theorem of_pull8 (h : pull8 s = .ok (b, u)) (hg : g.sp = true := by rfl) : Moves g s u :=
  (refl.setSp _ hg).trans (of_readByte h)

theorem of_pullWord (h : pullWord s = .ok (v, u)) (hg : g.sp = true := by rfl) : Moves g s u := by
  obtain ⟨hi, lo, s1, s2, h1, h2, ⟨⟩⟩ := pullWord_eq_ok.mp h
  exact (of_pull8 h1 hg).trans (of_pull8 h2 hg)

theorem framed : Moves .onlySp s (framed v s) :=
  ((((pushed ..).trans (pushed ..)).trans (pushed ..)).trans (pushed ..)).trans (pushed ..)

theorem of_loadSrc (h : loadSrc o s = .ok (b, u)) : Moves g s u := by
  cases o with
  | imm ii => cases h; exact refl
  | mem e => exact of_readByte h

end Moves

/-- The register that an instruction writes whose one operand is this place: X alone, never H (R22). -/
def placeRegs (p : Place) : RegUse :=
  match p with
  | .a => .onlyA
  | .x => .onlyX
  | _ => .noReg

theorem Moves.of_loadPlace {g : RegUse} {p : Place} {b : Byte} {s u : State} (h : loadPlace p s = .ok (b, u)) :
    Moves g s u := by
  cases p with
  | a | x => cases h; exact refl
  | dir | ix1 | ix | sp1 => exact of_readByte h

theorem Moves.of_storePlace {p : Place} {b : Byte} {s u : State} (h : storePlace p b s = .ok u) :
    Moves (placeRegs p) s u := by
  cases p with
  | a => cases h; exact refl.setA b
  | x => cases h; exact refl.setX b
  | dir | ix1 | ix | sp1 => exact of_writeByte h

/-! ### The effect of an instruction -/

/-- What the profile `p` of an instruction of `len` bytes asks of the states before and after it. -/
structure Keeps (p : Profile) (len : Nat) (s t : State) : Prop where
  flags : p.flags.allows s.ccr t.ccr
  regs : p.regs.allows s t
  pc : p.transfer = false → t.pc = s.npc len

/-- The instruction keeps what its profile asks for, and everything around registers, flags and memory. -/
abbrev Effect (p : Profile) (len : Nat) (s t : State) : Prop := Keeps p len s t ∧ SameSurroundings s t

namespace Moves

variable {g : RegUse} {r : FlagRow} {s u : State} {c : Ccr} {target : Word} {len : Nat}

/-- An instruction that goes on at the next one. -/
theorem next (h : Moves g s u) (hc : r.allows s.ccr c) :
    Effect ⟨r, g, false⟩ len s { u with ccr := c, pc := s.npc len } :=
  ⟨⟨hc, h.regs, fun _ => rfl⟩, h.surroundings.set⟩

/-- A control transfer. -/
theorem transfer (h : Moves g s u) (hc : r.allows s.ccr c) :
    Effect ⟨r, g, true⟩ len s { u with ccr := c, pc := target } :=
  ⟨⟨hc, h.regs, nofun⟩, h.surroundings.set⟩

theorem nextUntouched (h : Moves g s u) : Effect ⟨.untouched, g, false⟩ len s { u with pc := s.npc len } :=
  h.next h.untouched

theorem transferUntouched (h : Moves g s u) : Effect ⟨.untouched, g, true⟩ len s { u with pc := target } :=
  h.transfer h.untouched

end Moves

/-! ### The rows of the flag table (R33) -/

section Flags

variable (f : Ccr) (a m v : Byte) (p q : Word) (b : Bool)

theorem allows_added8 : FlagRow.added.allows f (f.added8 a m b) :=
  ⟨trivial, trivial, rfl, trivial, trivial, trivial⟩

theorem allows_subbed8 : FlagRow.subtracted.allows f (f.subbed8 a m b) :=
  ⟨trivial, rfl, rfl, trivial, trivial, trivial⟩

theorem allows_subbed16 : FlagRow.subtracted.allows f (f.subbed16 p q) :=
  ⟨trivial, rfl, rfl, trivial, trivial, trivial⟩

theorem allows_loaded8 : FlagRow.loaded.allows f (f.loaded8 v) := ⟨rfl, rfl, rfl, trivial, trivial, rfl⟩

theorem allows_loaded16 : FlagRow.loaded.allows f (f.loaded16 p) := ⟨rfl, rfl, rfl, trivial, trivial, rfl⟩

theorem allows_zeroed : FlagRow.zeroed.allows f { f with v := false, n := false, z := true } :=
  ⟨rfl, rfl, rfl, rfl, rfl, rfl⟩

theorem allows_shifted : FlagRow.shifted.allows f (f.shifted v b) := ⟨trivial, rfl, rfl, trivial, trivial, trivial⟩

theorem allows_decByte : FlagRow.stepped.allows f (decByte v f).2 := ⟨trivial, rfl, rfl, trivial, trivial, rfl⟩

theorem allows_incByte : FlagRow.stepped.allows f (incByte v f).2 := ⟨trivial, rfl, rfl, trivial, trivial, rfl⟩

theorem allows_negByte : FlagRow.subtracted.allows f (negByte v f).2 :=
  ⟨trivial, rfl, rfl, trivial, trivial, trivial⟩

theorem allows_comByte : FlagRow.complemented.allows f (comByte v f).2 := ⟨rfl, rfl, rfl, trivial, trivial, rfl⟩

theorem allows_lslByte : FlagRow.shifted.allows f (lslByte v f).2 := allows_shifted ..

theorem allows_asrByte : FlagRow.shifted.allows f (asrByte v f).2 := allows_shifted ..

theorem allows_rolByte : FlagRow.shifted.allows f (rolByte v f).2 := allows_shifted ..

theorem allows_rorByte : FlagRow.shifted.allows f (rorByte v f).2 := allows_shifted ..

/-- LSR clears N, because bit 7 is loaded with 0 (R193). -/
theorem allows_lsrByte : FlagRow.shiftedRight.allows f (lsrByte v f).2 :=
  have hn : (v >>> 1).getLsbD 7 = false := by simp
  ⟨trivial, rfl, rfl, hn, trivial, trivial⟩

theorem allows_bitTested : FlagRow.bitTested.allows f { f with c := b } := ⟨rfl, rfl, rfl, rfl, rfl, trivial⟩

theorem allows_restored (f' : Ccr) : FlagRow.restored.allows f f' :=
  ⟨trivial, trivial, trivial, trivial, trivial, trivial⟩

end Flags

/-! ### The effect of each meaning -/

section Meanings

variable {s t : State} {o : Src} {p : Place} {b : Bool} {dd rr v : Byte} {addr dest : Word} {len n : Nat}
  {j : JumpForm}

theorem addA_effect (h : finish (addA b o s) = .next t) : Effect ⟨.added, .onlyA, false⟩ (srcLen o) s t := by
  obtain ⟨⟨m, u⟩, hload, ⟨⟩⟩ := bind_eq_ok.mp (finish_eq_next.mp h)
  exact ((Moves.of_loadSrc hload).setA _).next (allows_added8 ..)

theorem subA_effect (h : finish (subA b o s) = .next t) : Effect ⟨.subtracted, .onlyA, false⟩ (srcLen o) s t := by
  obtain ⟨⟨m, u⟩, hload, ⟨⟩⟩ := bind_eq_ok.mp (finish_eq_next.mp h)
  exact ((Moves.of_loadSrc hload).setA _).next (allows_subbed8 ..)

theorem compare8_effect (h : finish (compare8 v o s) = .next t) :
    Effect ⟨.subtracted, .noReg, false⟩ (srcLen o) s t := by
  obtain ⟨⟨m, u⟩, hload, ⟨⟩⟩ := bind_eq_ok.mp (finish_eq_next.mp h)
  exact (Moves.of_loadSrc hload).next (allows_subbed8 ..)

theorem testBits_effect (h : finish (testBits o s) = .next t) : Effect ⟨.loaded, .noReg, false⟩ (srcLen o) s t := by
  obtain ⟨⟨m, u⟩, hload, ⟨⟩⟩ := bind_eq_ok.mp (finish_eq_next.mp h)
  exact (Moves.of_loadSrc hload).next (allows_loaded8 ..)

theorem loadA_effect (h : finish (loadA o s) = .next t) : Effect ⟨.loaded, .onlyA, false⟩ (srcLen o) s t := by
  obtain ⟨⟨m, u⟩, hload, ⟨⟩⟩ := bind_eq_ok.mp (finish_eq_next.mp h)
  exact ((Moves.of_loadSrc hload).setA _).next (allows_loaded8 ..)

theorem loadX_effect (h : finish (loadX o s) = .next t) : Effect ⟨.loaded, .onlyX, false⟩ (srcLen o) s t := by
  obtain ⟨⟨m, u⟩, hload, ⟨⟩⟩ := bind_eq_ok.mp (finish_eq_next.mp h)
  exact ((Moves.of_loadSrc hload).setX m).next (allows_loaded8 ..)

theorem logicA_effect {f : Byte → Byte → Byte} (h : finish (logicA f o s) = .next t) :
    Effect ⟨.loaded, .onlyA, false⟩ (srcLen o) s t := by
  obtain ⟨⟨m, u⟩, hload, ⟨⟩⟩ := bind_eq_ok.mp (finish_eq_next.mp h)
  exact ((Moves.of_loadSrc hload).setA _).next (allows_loaded8 ..)

theorem storeReg_effect {e : Ea} (h : finish (storeReg v e s) = .next t) :
    Effect ⟨.loaded, .noReg, false⟩ (eaLen e) s t := by
  obtain ⟨u, hstore, ⟨⟩⟩ := bind_eq_ok.mp (finish_eq_next.mp h)
  exact (Moves.of_writeByte hstore).next (allows_loaded8 ..)

theorem modifyPlace_effect {r : FlagRow} {f : Byte → Ccr → Byte × Ccr}
    (hf : ∀ (c : Ccr) (v : Byte), r.allows c (f v c).2) (h : finish (modifyPlace p f s) = .next t) :
    Effect ⟨r, placeRegs p, false⟩ (placeLen p) s t := by
  obtain ⟨⟨m, u⟩, hload, h⟩ := bind_eq_ok.mp (finish_eq_next.mp h)
  obtain ⟨w, hstore, ⟨⟩⟩ := bind_eq_ok.mp h
  exact ((Moves.of_loadPlace hload).trans (Moves.of_storePlace hstore)).next (hf ..)

theorem clearPlace_effect (h : finish (clearPlace p s) = .next t) :
    Effect ⟨.zeroed, placeRegs p, false⟩ (placeLen p) s t := by
  obtain ⟨u, hstore, ⟨⟩⟩ := bind_eq_ok.mp (finish_eq_next.mp h)
  exact (Moves.of_storePlace hstore).next (allows_zeroed ..)

theorem testPlace_effect (h : finish (testPlace p s) = .next t) :
    Effect ⟨.loaded, .noReg, false⟩ (placeLen p) s t := by
  obtain ⟨⟨m, u⟩, hload, ⟨⟩⟩ := bind_eq_ok.mp (finish_eq_next.mp h)
  exact (Moves.of_loadPlace hload).next (allows_loaded8 ..)

theorem decrementBranch_effect (h : finish (decrementBranch p rr s) = .next t) :
    Effect ⟨.untouched, placeRegs p, true⟩ len s t := by
  obtain ⟨⟨m, u⟩, hload, h⟩ := bind_eq_ok.mp (finish_eq_next.mp h)
  obtain ⟨w, hstore, ⟨⟩⟩ := bind_eq_ok.mp h
  exact ((Moves.of_loadPlace hload).trans (Moves.of_storePlace hstore)).transferUntouched

theorem compareHxDir_effect (h : finish (compareHxDir dd s) = .next t) :
    Effect ⟨.subtracted, .noReg, false⟩ 2 s t := by
  obtain ⟨⟨m, u⟩, hload, ⟨⟩⟩ := bind_eq_ok.mp (finish_eq_next.mp h)
  exact (Moves.of_readWord hload).next (allows_subbed16 ..)

theorem loadHxDir_effect (h : finish (loadHxDir dd s) = .next t) : Effect ⟨.loaded, .onlyHX, false⟩ 2 s t := by
  obtain ⟨⟨m, u⟩, hload, ⟨⟩⟩ := bind_eq_ok.mp (finish_eq_next.mp h)
  exact ((Moves.of_readWord hload).setHx m).next (allows_loaded16 ..)

theorem storeHxDir_effect (h : finish (storeHxDir dd s) = .next t) : Effect ⟨.loaded, .noReg, false⟩ 2 s t := by
  obtain ⟨u, hstore, ⟨⟩⟩ := bind_eq_ok.mp (finish_eq_next.mp h)
  exact (Moves.of_writeWord hstore).next (allows_loaded16 ..)

theorem changeBit_effect {f : Byte → Byte} (h : finish (changeBit f dd s) = .next t) :
    Effect ⟨.untouched, .noReg, false⟩ 2 s t := by
  obtain ⟨⟨m, u⟩, hload, h⟩ := bind_eq_ok.mp (finish_eq_next.mp h)
  obtain ⟨w, hstore, ⟨⟩⟩ := bind_eq_ok.mp h
  exact ((Moves.of_readByte hload).trans (Moves.of_writeByte hstore)).nextUntouched

theorem branchOnBit_effect (h : finish (branchOnBit b n dd rr s) = .next t) :
    Effect ⟨.bitTested, .noReg, true⟩ len s t := by
  obtain ⟨⟨m, u⟩, hload, ⟨⟩⟩ := bind_eq_ok.mp (finish_eq_next.mp h)
  exact (Moves.of_readByte hload).transfer (allows_bitTested ..)

theorem moveByte_effect (h : finish (moveByte v dest len s) = .next t) :
    Effect ⟨.loaded, .noReg, false⟩ len s t := by
  obtain ⟨u, hstore, ⟨⟩⟩ := bind_eq_ok.mp (finish_eq_next.mp h)
  exact (Moves.of_writeByte hstore).next (allows_loaded8 ..)

/-- A move from memory is a read and a write, with the flags of the byte moved (R131). -/
theorem moveMem_moves (g : RegUse) (h : moveMem addr dest len s = .ok t) :
    ∃ u m, Moves g s u ∧ t = { u with ccr := s.ccr.loaded8 m, pc := s.npc len } := by
  obtain ⟨⟨m, u⟩, hload, h⟩ := bind_eq_ok.mp h
  obtain ⟨w, hstore, ⟨⟩⟩ := bind_eq_ok.mp h
  obtain ⟨-, ⟨⟩⟩ := readByte_eq_ok.mp hload
  exact ⟨w, _, (Moves.of_readByte hload).trans (Moves.of_writeByte hstore), rfl⟩

theorem moveMem_effect (h : finish (moveMem addr dest len s) = .next t) :
    Effect ⟨.loaded, .noReg, false⟩ len s t := by
  obtain ⟨u, m, hu, rfl⟩ := moveMem_moves .noReg (finish_eq_next.mp h)
  exact hu.next (allows_loaded8 ..)

theorem moveMemBump_effect (h : finish (moveMemBump addr dest len s) = .next t) :
    Effect ⟨.loaded, .onlyHX, false⟩ len s t := by
  obtain ⟨w, hmove, ⟨⟩⟩ := bind_eq_ok.mp (finish_eq_next.mp h)
  obtain ⟨u, m, hu, rfl⟩ := moveMem_moves .onlyHX hmove
  exact (hu.setHx (u.hx + 1)).next (allows_loaded8 ..)

theorem compareBranch_effect (h : finish (compareBranch addr len rr s) = .next t) :
    Effect ⟨.untouched, .noReg, true⟩ n s t := by
  obtain ⟨⟨m, u⟩, hload, ⟨⟩⟩ := bind_eq_ok.mp (finish_eq_next.mp h)
  exact (Moves.of_readByte hload).transferUntouched

theorem compareBranchBump_effect (h : finish (compareBranchBump addr len rr s) = .next t) :
    Effect ⟨.untouched, .onlyHX, true⟩ n s t := by
  obtain ⟨w, hcompare, ⟨⟩⟩ := bind_eq_ok.mp (finish_eq_next.mp h)
  obtain ⟨⟨m, u⟩, hload, ⟨⟩⟩ := bind_eq_ok.mp hcompare
  exact ((Moves.of_readByte hload).setHx (u.hx + 1)).transferUntouched

theorem pushReg_effect (h : finish (pushReg v s) = .next t) : Effect ⟨.untouched, .onlySp, false⟩ 1 s t := by
  obtain ⟨u, hpush, ⟨⟩⟩ := bind_eq_ok.mp (finish_eq_next.mp h)
  exact (Moves.of_push8 hpush).nextUntouched

theorem pullA_effect (h : finish (pullA s) = .next t) : Effect ⟨.untouched, .aSp, false⟩ 1 s t := by
  obtain ⟨⟨m, u⟩, hpull, ⟨⟩⟩ := bind_eq_ok.mp (finish_eq_next.mp h)
  exact ((Moves.of_pull8 hpull).setA m).nextUntouched

theorem pullX_effect (h : finish (pullX s) = .next t) : Effect ⟨.untouched, .xSp, false⟩ 1 s t := by
  obtain ⟨⟨m, u⟩, hpull, ⟨⟩⟩ := bind_eq_ok.mp (finish_eq_next.mp h)
  exact ((Moves.of_pull8 hpull).setX m).nextUntouched

theorem pullH_effect (h : finish (pullH s) = .next t) : Effect ⟨.untouched, .hSp, false⟩ 1 s t := by
  obtain ⟨⟨m, u⟩, hpull, ⟨⟩⟩ := bind_eq_ok.mp (finish_eq_next.mp h)
  exact ((Moves.of_pull8 hpull).setH m).nextUntouched

theorem branchIf_effect : Effect ⟨.untouched, .noReg, true⟩ len s (branchIf b rr s) := Moves.refl.transferUntouched

theorem branchToSub_effect (h : finish (branchToSub rr s) = .next t) :
    Effect ⟨.untouched, .onlySp, true⟩ len s t := by
  obtain ⟨u, hpush, ⟨⟩⟩ := bind_eq_ok.mp (finish_eq_next.mp h)
  exact (Moves.of_pushWord hpush).transferUntouched

theorem jumpToSub_effect (h : finish (jumpToSub j s) = .next t) : Effect ⟨.untouched, .onlySp, true⟩ len s t := by
  obtain ⟨u, hpush, ⟨⟩⟩ := bind_eq_ok.mp (finish_eq_next.mp h)
  exact (Moves.of_pushWord hpush).transferUntouched

theorem returnFromSub_effect (h : finish (returnFromSub s) = .next t) :
    Effect ⟨.untouched, .onlySp, true⟩ len s t := by
  obtain ⟨⟨m, u⟩, hpull, ⟨⟩⟩ := bind_eq_ok.mp (finish_eq_next.mp h)
  exact (Moves.of_pullWord hpull).transferUntouched

/-- Taking an exception changes SP, PC, I and memory (R287, R318). -/
theorem enterException_effect (h : enterException addr dest s = .ok t) :
    Effect ⟨.maskSet, .onlySp, true⟩ len s t := by
  obtain ⟨-, target, u, hvector, rfl⟩ := enterException_eq_ok.mp h
  have hframe : Moves .onlySp s (framed addr s) := .framed
  have hread : Moves .onlySp { framed addr s with ccr := { s.ccr with i := true } } u := .of_readWord hvector
  have hflags : FlagRow.maskSet.allows s.ccr u.ccr := by
    rw [hread.ccr]
    exact ⟨rfl, rfl, rfl, rfl, rfl, rfl⟩
  exact ⟨⟨hflags, hframe.regs.trans hread.regs, nofun⟩, (hframe.surroundings.set.trans hread.surroundings).set⟩

theorem returnFromException_effect (h : finish (returnFromException s) = .next t) :
    Effect ⟨.restored, .aXSp, true⟩ len s t := by
  obtain ⟨flags, acc, idx, target, s1, s2, s3, s4, h1, h2, h3, h4, rfl⟩ :=
    returnFromException_eq_ok.mp (finish_eq_next.mp h)
  have hpulls : Moves .aXSp s s4 := (((Moves.of_pull8 h1).trans (Moves.of_pull8 h2)).trans
    (Moves.of_pull8 h3)).trans (Moves.of_pullWord h4)
  exact ((hpulls.setA acc).setX idx).transfer (allows_restored ..)

theorem decimalAdjust_effect : Effect ⟨.adjusted, .onlyA, false⟩ 1 s (decimalAdjust s) := by
  unfold decimalAdjust
  split
  · exact (Moves.refl.setA _).setDraws.next ⟨trivial, rfl, rfl, trivial, trivial, trivial⟩
  · exact (Moves.refl.setA _).setDraws.next ⟨trivial, rfl, rfl, trivial, trivial, trivial⟩

theorem multiply_effect : Effect ⟨.multiplied, .aX, false⟩ 1 s (multiply s) :=
  ((Moves.refl.setX _).setA _).next ⟨rfl, rfl, rfl, rfl, rfl, rfl⟩

theorem divide_effect : Effect ⟨.divided, .aH, false⟩ 1 s (divide s) := by
  simp only [divide]
  split
  · exact ((Moves.refl.setA _).setH _).setDraws.next ⟨rfl, rfl, rfl, rfl, trivial, trivial⟩
  · exact ((Moves.refl.setA _).setH _).next ⟨rfl, rfl, rfl, rfl, trivial, trivial⟩

end Meanings

/-! ### Every instruction -/

/-- `s` with RUN and the late window as the instruction leaves them: WAIT and STOP alone change RUN, SEI alone the
late window (R291, R292, R317). -/
def State.afterControl (s : State) (i : Instr) : State :=
  match i with
  | .wait => { s with run := .waiting }
  | .stop => { s with run := .stopped }
  | .sei => { s with seiWindow := !s.ccr.i }
  | _ => s

/-- Every instruction keeps what its profile asks for; around registers, flags and memory it changes at most RUN and
the late window. -/
theorem exec_effect {i : Instr} {s t : State} (h : exec i s = .next t) :
    Keeps (profile i) (encode i).length s t ∧ SameSurroundings (s.afterControl i) t := by
  cases i with
  | addImm | adcImm => exact addA_effect (o := .imm _) h
  | addDir | addExt | addIx2 | addIx1 | addIx | addSp2 | addSp1 | adcDir | adcExt | adcIx2 | adcIx1 | adcIx
  | adcSp2 | adcSp1 =>
    exact addA_effect h
  | subImm | sbcImm => exact subA_effect (o := .imm _) h
  | subDir | subExt | subIx2 | subIx1 | subIx | subSp2 | subSp1 | sbcDir | sbcExt | sbcIx2 | sbcIx1 | sbcIx
  | sbcSp2 | sbcSp1 =>
    exact subA_effect h
  | cmpImm | cpxImm => exact compare8_effect (o := .imm _) h
  | cmpDir | cmpExt | cmpIx2 | cmpIx1 | cmpIx | cmpSp2 | cmpSp1 | cpxDir | cpxExt | cpxIx2 | cpxIx1 | cpxIx
  | cpxSp2 | cpxSp1 =>
    exact compare8_effect h
  | bitImm => exact testBits_effect (o := .imm _) h
  | bitDir | bitExt | bitIx2 | bitIx1 | bitIx | bitSp2 | bitSp1 => exact testBits_effect h
  | ldaImm => exact loadA_effect (o := .imm _) h
  | ldaDir | ldaExt | ldaIx2 | ldaIx1 | ldaIx | ldaSp2 | ldaSp1 => exact loadA_effect h
  | ldxImm => exact loadX_effect (o := .imm _) h
  | ldxDir | ldxExt | ldxIx2 | ldxIx1 | ldxIx | ldxSp2 | ldxSp1 => exact loadX_effect h
  | andImm | oraImm | eorImm => exact logicA_effect (o := .imm _) h
  | andDir | andExt | andIx2 | andIx1 | andIx | andSp2 | andSp1 | oraDir | oraExt | oraIx2 | oraIx1 | oraIx
  | oraSp2 | oraSp1 | eorDir | eorExt | eorIx2 | eorIx1 | eorIx | eorSp2 | eorSp1 =>
    exact logicA_effect h
  | staDir | staExt | staIx2 | staIx1 | staIx | staSp2 | staSp1 | stxDir | stxExt | stxIx2 | stxIx1 | stxIx
  | stxSp2 | stxSp1 =>
    exact storeReg_effect h
  | nega => exact modifyPlace_effect (p := .a) allows_negByte h
  | negx => exact modifyPlace_effect (p := .x) allows_negByte h
  | negDir | negIx1 | negIx | negSp1 => exact modifyPlace_effect allows_negByte h
  | coma => exact modifyPlace_effect (p := .a) allows_comByte h
  | comx => exact modifyPlace_effect (p := .x) allows_comByte h
  | comDir | comIx1 | comIx | comSp1 => exact modifyPlace_effect allows_comByte h
  | lsra => exact modifyPlace_effect (p := .a) allows_lsrByte h
  | lsrx => exact modifyPlace_effect (p := .x) allows_lsrByte h
  | lsrDir | lsrIx1 | lsrIx | lsrSp1 => exact modifyPlace_effect allows_lsrByte h
  | rora => exact modifyPlace_effect (p := .a) allows_rorByte h
  | rorx => exact modifyPlace_effect (p := .x) allows_rorByte h
  | rorDir | rorIx1 | rorIx | rorSp1 => exact modifyPlace_effect allows_rorByte h
  | asra => exact modifyPlace_effect (p := .a) allows_asrByte h
  | asrx => exact modifyPlace_effect (p := .x) allows_asrByte h
  | asrDir | asrIx1 | asrIx | asrSp1 => exact modifyPlace_effect allows_asrByte h
  | lsla => exact modifyPlace_effect (p := .a) allows_lslByte h
  | lslx => exact modifyPlace_effect (p := .x) allows_lslByte h
  | lslDir | lslIx1 | lslIx | lslSp1 => exact modifyPlace_effect allows_lslByte h
  | rola => exact modifyPlace_effect (p := .a) allows_rolByte h
  | rolx => exact modifyPlace_effect (p := .x) allows_rolByte h
  | rolDir | rolIx1 | rolIx | rolSp1 => exact modifyPlace_effect allows_rolByte h
  | deca => exact modifyPlace_effect (p := .a) allows_decByte h
  | decx => exact modifyPlace_effect (p := .x) allows_decByte h
  | decDir | decIx1 | decIx | decSp1 => exact modifyPlace_effect allows_decByte h
  | inca => exact modifyPlace_effect (p := .a) allows_incByte h
  | incx => exact modifyPlace_effect (p := .x) allows_incByte h
  | incDir | incIx1 | incIx | incSp1 => exact modifyPlace_effect allows_incByte h
  | clra => exact clearPlace_effect (p := .a) h
  | clrx => exact clearPlace_effect (p := .x) h
  | clrDir | clrIx1 | clrIx | clrSp1 => exact clearPlace_effect h
  | tsta => exact testPlace_effect (p := .a) h
  | tstx => exact testPlace_effect (p := .x) h
  | tstDir | tstIx1 | tstIx | tstSp1 => exact testPlace_effect h
  | dbnza => exact decrementBranch_effect (p := .a) h
  | dbnzx => exact decrementBranch_effect (p := .x) h
  | dbnzDir | dbnzIx1 | dbnzIx | dbnzSp1 => exact decrementBranch_effect h
  | bset0 | bset1 | bset2 | bset3 | bset4 | bset5 | bset6 | bset7 | bclr0 | bclr1 | bclr2 | bclr3 | bclr4 | bclr5
  | bclr6 | bclr7 =>
    exact changeBit_effect h
  | brset0 | brset1 | brset2 | brset3 | brset4 | brset5 | brset6 | brset7 | brclr0 | brclr1 | brclr2 | brclr3
  | brclr4 | brclr5 | brclr6 | brclr7 =>
    exact branchOnBit_effect h
  | bra | brn | bhi | bls | bcc | bcs | bne | beq | bhcc | bhcs | bpl | bmi | bmc | bms | bil | bih | bge | blt
  | bgt | ble =>
    cases h; exact branchIf_effect
  | cbeqDir | cbeqSp1 => exact compareBranch_effect h
  | cbeqIx1p | cbeqIxp => exact compareBranchBump_effect h
  | cbeqa | cbeqx => cases h; exact Moves.refl.transferUntouched
  | jmpDir | jmpExt | jmpIx2 | jmpIx1 | jmpIx => cases h; exact Moves.refl.transferUntouched
  | jsrDir | jsrExt | jsrIx2 | jsrIx1 | jsrIx => exact jumpToSub_effect h
  | bsr => exact branchToSub_effect h
  | rts => exact returnFromSub_effect h
  | swi => exact enterException_effect (finish_eq_next.mp h)
  | rti => exact returnFromException_effect h
  | movDirDir => exact moveMem_effect h
  | movImmDir => exact moveByte_effect h
  | movDirIxp | movIxpDir => exact moveMemBump_effect h
  | ldhxDir => exact loadHxDir_effect h
  | sthxDir => exact storeHxDir_effect h
  | cphxDir => exact compareHxDir_effect h
  | psha | pshh | pshx => exact pushReg_effect h
  | pula => exact pullA_effect h
  | pulx => exact pullX_effect h
  | pulh => exact pullH_effect h
  | daa => cases h; exact decimalAdjust_effect
  | mul => cases h; exact multiply_effect
  | div => cases h; exact divide_effect
  | ldhxImm w => cases h; exact (Moves.refl.setHx w).next (allows_loaded16 ..)
  | cphxImm => cases h; exact Moves.refl.next (allows_subbed16 ..)
  | clrh => cases h; exact (Moves.refl.setH 0).next (allows_zeroed ..)
  | nsa | txa | tpa => cases h; exact (Moves.refl.setA _).nextUntouched
  | tax => cases h; exact (Moves.refl.setX s.a).nextUntouched
  | ais ii => cases h; exact (Moves.refl.setSp (s.sp + sext16 ii)).nextUntouched
  | rsp => cases h; exact (Moves.refl.setSp (joinBytes (hiByte s.sp) 0xFF#8)).nextUntouched
  | txs => cases h; exact (Moves.refl.setSp (s.hx - 1)).nextUntouched
  | aix | tsx => cases h; exact (Moves.refl.setHx _).nextUntouched
  | nop => cases h; exact Moves.refl.nextUntouched
  | tap => cases h; exact Moves.refl.next (allows_restored ..)
  | sec | clc | cli => cases h; exact Moves.refl.next ⟨rfl, rfl, rfl, rfl, rfl, rfl⟩
  | sei | wait | stop =>
    cases h
    exact ⟨⟨⟨rfl, rfl, rfl, rfl, rfl, rfl⟩, Moves.refl.regs, fun _ => rfl⟩, .set (.refl _)⟩

end Sys2Proof.Machine
end

section
/-! PROOF. What a step does to the launch, the environment and the invariant: one lemma says what state a boundary
hands to the move that follows, one what each move keeps (spec/00_scope.md R14, spec/60_exceptions.md R316 to R333,
spec/70_reset_and_hazards.md R350). -/

namespace Sys2Proof.Machine

/-! ### The boundary -/

/-- The requests after a boundary: those raised are added, then those withdrawn removed (R333 (b), D24). -/
def pendingAfter (e : EnvInput) (s : State) : List IntSource :=
  (e.raised ∪ s.pending).filter (fun p => !(e.withdrawn.contains p))

theorem takeInput_nil {s : State} (h : s.inputs = []) : takeInput s = (false, s) := by
  simp [takeInput, h]

theorem takeInput_cons {s : State} {e : EnvInput} {rest : List EnvInput} (h : s.inputs = e :: rest) :
    takeInput s = (e.reset, { s with irqPin := e.irqPin, pending := pendingAfter e s, inputs := rest }) := by
  simp [takeInput, h, pendingAfter]

theorem mem_pendingAfter {e : EnvInput} {s : State} {p : IntSource} :
    p ∈ pendingAfter e s ↔ (p ∈ e.raised ∨ p ∈ s.pending) ∧ p ∉ e.withdrawn := by
  simp [pendingAfter]

theorem nodup_pendingAfter {e : EnvInput} {s : State} (h : s.pending.Nodup) : (pendingAfter e s).Nodup :=
  (h.union e.raised).filter _

/-- What a boundary may change before the move that follows: the pin, the requests, the queue of the environment, the
late window and the draw counter. -/
structure AtBoundary (s u : State) : Prop where
  inputs : u.inputs = s.inputs.tail
  params : u.params = s.params
  mem : u.mem = s.mem
  ccr : u.ccr = s.ccr
  run : u.run = s.run
  nodup : s.pending.Nodup → u.pending.Nodup

/-- The environment's input. -/
theorem atBoundary_takeInput (s : State) : AtBoundary s (takeInput s).2 := by
  cases h : s.inputs with
  | nil => rw [takeInput_nil h]; exact ⟨by simp [h], rfl, rfl, rfl, rfl, id⟩
  | cons e rest => rw [takeInput_cons h]; exact ⟨by simp [h], rfl, rfl, rfl, rfl, nodup_pendingAfter⟩

/-- The move that follows starts with the late window closed. -/
theorem atBoundary_boundary (s : State) : AtBoundary s (boundary s).2 ∧ (boundary s).2.seiWindow = false := by
  obtain ⟨hinputs, hparams, hmem, hccr, hrun, hnodup⟩ := atBoundary_takeInput s
  simp only [boundary]
  split
  · exact ⟨⟨hinputs, hparams, hmem, hccr, hrun, hnodup⟩, rfl⟩
  · exact ⟨⟨hinputs, hparams, hmem, hccr, hrun, hnodup⟩, rfl⟩

theorem boundary_of_reset {s s1 : State} (h : takeInput s = (true, s1)) :
    boundary s = (.reset, { s1 with seiWindow := false }) := by
  simp [boundary, h]

/-- Only a running machine executes an instruction (R36). -/
theorem run_of_chooseMove_execute {s : State} (h : chooseMove s = .execute) : s.run = .running := by
  unfold chooseMove at h
  split at h
  · assumption
  all_goals
    split at h
    · cases h
    · split at h <;> cases h

theorem run_of_boundary_execute {s u : State} (h : boundary s = (.execute, u)) : u.run = .running := by
  simp only [boundary] at h
  split at h
  · cases h
  · obtain ⟨hmove, rfl⟩ := Prod.mk.inj h
    have hrun : (takeInput s).2.run = .running := run_of_chooseMove_execute hmove
    exact hrun

/-! ### Reset -/

/-- A parameter that the launch gives is loaded; where it is left open a draw changes the draw counter alone (R350). -/
theorem State.orDrawByte_eq (p : Option Byte) (s : State) :
    ∃ b d, s.orDrawByte p = (b, { s with draws := d }) ∧ ∀ b', p = some b' → b = b' := by
  cases p with
  | none => exact ⟨_, _, rfl, nofun⟩
  | some b => exact ⟨b, s.draws, rfl, fun _ => Option.some.inj⟩

theorem State.orDrawBit_eq (p : Option Bool) (s : State) :
    ∃ b d, s.orDrawBit p = (b, { s with draws := d }) ∧ ∀ b', p = some b' → b = b' := by
  cases p with
  | none => exact ⟨_, _, rfl, nofun⟩
  | some b => exact ⟨b, s.draws, rfl, fun _ => Option.some.inj⟩

/-- The flags that `RESET_CCR` gives are those of `f`; the others are free (R40). -/
structure ResetFlags (p : ResetCcr) (f : Ccr) : Prop where
  v : ∀ b, p.v = some b → f.v = b
  hf : ∀ b, p.hf = some b → f.hf = b
  i : ∀ b, p.i = some b → f.i = b
  n : ∀ b, p.n = some b → f.n = b
  z : ∀ b, p.z = some b → f.z = b
  c : ∀ b, p.c = some b → f.c = b

theorem resetFlags_eq (p : ResetCcr) (s : State) :
    ∃ f d, resetFlags p s = (f, { s with draws := d }) ∧ ResetFlags p f := by
  obtain ⟨v, d1, e1, hv⟩ := s.orDrawBit_eq p.v
  obtain ⟨hf, d2, e2, hhf⟩ := { s with draws := d1 }.orDrawBit_eq p.hf
  obtain ⟨i, d3, e3, hi⟩ := { s with draws := d2 }.orDrawBit_eq p.i
  obtain ⟨n, d4, e4, hn⟩ := { s with draws := d3 }.orDrawBit_eq p.n
  obtain ⟨z, d5, e5, hz⟩ := { s with draws := d4 }.orDrawBit_eq p.z
  obtain ⟨c, d6, e6, hc⟩ := { s with draws := d5 }.orDrawBit_eq p.c
  exact ⟨⟨v, hf, i, n, z, c⟩, d6, by simp only [resetFlags, e1, e2, e3, e4, e5, e6], hv, hhf, hi, hn, hz, hc⟩

/-- The state in which a reset reads its vector: the launch's SP and H, and A, X and the flags as given or drawn. -/
def State.resetTo (s : State) (acc idx : Byte) (f : Ccr) (d : Nat) : State :=
  { s with
    sp := s.params.resetSp
    h := s.params.resetH
    a := acc
    x := idx
    ccr := f
    run := .running
    seiWindow := false
    draws := d }

/-- Everything that a reset can do (R350). -/
theorem resetMachine_eq_ok (s : State) :
    ∃ acc idx f d, (∀ b, s.params.resetA = some b → acc = b) ∧ (∀ b, s.params.resetX = some b → idx = b) ∧
      ResetFlags s.params.resetCcr f ∧ ∀ t, resetMachine s = .ok t ↔
        ∃ target u, readWord s.params.resetVector (s.resetTo acc idx f d) = .ok (target, u) ∧
          t = { u with pc := target } := by
  obtain ⟨acc, d1, e1, ha⟩ := s.orDrawByte_eq s.params.resetA
  obtain ⟨idx, d2, e2, hx⟩ := { s with draws := d1 }.orDrawByte_eq s.params.resetX
  obtain ⟨f, d3, e3, hf⟩ := resetFlags_eq s.params.resetCcr { s with draws := d2 }
  refine ⟨acc, idx, f, d3, ha, hx, hf, fun t => ?_⟩
  simp only [resetMachine, e1, e2, e3, bind_eq_ok, Prod.exists, State.resetTo, Except.ok.injEq, eq_comm (b := t)]

/-- A reset leaves the machine running with the late window closed, and keeps the rest of the surroundings. -/
theorem resetMachine_surroundings {s t : State} (h : resetMachine s = .ok t) :
    SameSurroundings { s with run := .running, seiWindow := false } t := by
  obtain ⟨acc, idx, f, d, -, -, -, hreset⟩ := resetMachine_eq_ok s
  obtain ⟨target, u, hvector, rfl⟩ := (hreset t).mp h
  have hloaded : SameSurroundings { s with run := .running, seiWindow := false } (s.resetTo acc idx f d) :=
    (SameSurroundings.refl _).set
  exact (hloaded.trans (Moves.of_readWord (g := .noReg) hvector).surroundings).set

/-! ### The other moves -/

/-- An interrupt leaves the machine running and withdraws the request taken (R318). -/
theorem takeInterrupt_surroundings {src : IntSource} {vector : Word} {s t : State}
    (h : takeInterrupt src vector s = .ok t) :
    SameSurroundings { s with run := .running, pending := s.pending.filter (fun p => p != src) } t := by
  obtain ⟨u, hentry, rfl⟩ := takeInterrupt_eq_ok.mp h
  have hs := (enterException_effect (len := 0) hentry).2
  exact ⟨hs.irqPin, by simp [hs.pending], hs.inputs, hs.params, rfl, hs.seiWindow, hs.memWf⟩

/-- The instruction at PC is executed, or an unassigned opcode resets where the launch says so (R312). -/
theorem executeNext_cases {s t : State} (h : executeNext s = .next t) :
    resetMachine s = .ok t ∨ ∃ i n, fetch s = .ok (.instr i n) ∧ exec i s = .next t := by
  unfold executeNext at h
  split at h
  · cases finish_eq_next.mp h
  · next hfetch => exact .inr ⟨_, _, hfetch, h⟩
  · cases h
  · split at h
    · exact .inl (finish_eq_next.mp h)
    · cases h

/-- Everything that a move can do. -/
theorem perform_cases {m : Move} {s t : State} (h : perform m s = .next t) :
    resetMachine s = .ok t ∨ (∃ src vector, takeInterrupt src vector s = .ok t) ∨ t = s ∨
      m = .execute ∧ ∃ i n, fetch s = .ok (.instr i n) ∧ exec i s = .next t := by
  cases m with
  | reset => exact .inl (finish_eq_next.mp h)
  | interrupt src vector => exact .inr (.inl ⟨src, vector, finish_eq_next.mp h⟩)
  | idle => cases h; exact .inr (.inr (.inl rfl))
  | execute => exact (executeNext_cases h).imp id fun hexec => .inr (.inr ⟨rfl, hexec⟩)

/-- Everything that a step can do: from the state that the boundary hands on, a reset, an interrupt, nothing, or the
instruction at PC of a running machine (R14). -/
theorem step_cases {s t : State} (h : step s = .next t) :
    ∃ u, AtBoundary s u ∧ u.seiWindow = false ∧
      (resetMachine u = .ok t ∨ (∃ src vector, takeInterrupt src vector u = .ok t) ∨ t = u ∨
        u.run = .running ∧ ∃ i n, fetch u = .ok (.instr i n) ∧ exec i u = .next t) := by
  obtain ⟨hboundary, hwindow⟩ := atBoundary_boundary s
  have hrun (e : (boundary s).1 = .execute) : (boundary s).2.run = .running := run_of_boundary_execute (Prod.ext e rfl)
  exact ⟨_, hboundary, hwindow, (perform_cases h).imp id (Or.imp id (Or.imp id (And.imp_left hrun)))⟩

/-! ### The invariant -/

theorem State.Inv.of_atBoundary {s u : State} (h : s.Inv) (hb : AtBoundary s u) (hw : u.seiWindow = false) : u.Inv := by
  obtain ⟨hmem, hnodup, hrun, -⟩ := h
  exact ⟨hb.mem ▸ hmem, hb.nodup hnodup, by rw [hb.run, hb.ccr]; exact hrun, by simp [hw]⟩

/-- A running machine with the late window closed meets the invariant whatever its flags. -/
theorem inv_of_running {s : State} (hmem : s.mem.wf) (hnodup : s.pending.Nodup) (hrun : s.run = .running)
    (hw : s.seiWindow = false) : s.Inv :=
  ⟨hmem, hnodup, fun h => absurd hrun h, fun h => by simp [hw] at h⟩

theorem State.Inv.of_resetMachine {s t : State} (h : s.Inv) (e : resetMachine s = .ok t) : t.Inv := by
  obtain ⟨hmem, hnodup, -, -⟩ := h
  have hs := resetMachine_surroundings e
  exact inv_of_running (hs.memWf hmem) (hs.pending ▸ hnodup) hs.run hs.seiWindow

theorem State.Inv.of_takeInterrupt {s t : State} {src : IntSource} {vector : Word} (h : s.Inv)
    (hw : s.seiWindow = false) (e : takeInterrupt src vector s = .ok t) : t.Inv := by
  obtain ⟨hmem, hnodup, -, -⟩ := h
  have hs := takeInterrupt_surroundings e
  exact inv_of_running (hs.memWf hmem) (hs.pending ▸ hnodup.filter _) hs.run (hs.seiWindow.trans hw)

/-- WAIT and STOP clear I (R291, R292), SEI sets it (R286); every other instruction leaves the machine running and the
late window closed. -/
theorem State.Inv.of_exec {s t : State} {i : Instr} (h : s.Inv) (hrun : s.run = .running) (hw : s.seiWindow = false)
    (e : exec i s = .next t) : t.Inv := by
  obtain ⟨hmem, hnodup, -, -⟩ := h
  obtain ⟨⟨⟨-, -, hi, -, -, -⟩, -, -⟩, hs⟩ := exec_effect e
  unfold State.afterControl at hs
  split at hs
  case h_1 => exact ⟨hs.memWf hmem, hs.pending ▸ hnodup, fun _ => hi, by simp [hs.seiWindow, hw]⟩
  case h_2 => exact ⟨hs.memWf hmem, hs.pending ▸ hnodup, fun _ => hi, by simp [hs.seiWindow, hw]⟩
  case h_3 => exact ⟨hs.memWf hmem, hs.pending ▸ hnodup, by simp [hs.run, hrun], fun _ => hi⟩
  case h_4 =>
    exact inv_of_running (hs.memWf hmem) (hs.pending ▸ hnodup) (hs.run.trans hrun) (hs.seiWindow.trans hw)

/-! ### The launch and the queue of the environment -/

theorem State.afterControl_frame (s : State) (i : Instr) :
    (s.afterControl i).irqPin = s.irqPin ∧ (s.afterControl i).pending = s.pending ∧
      (s.afterControl i).inputs = s.inputs ∧ (s.afterControl i).params = s.params := by
  unfold State.afterControl
  split <;> exact ⟨rfl, rfl, rfl, rfl⟩

theorem State.afterControl_run {s : State} {i : Instr} (hwait : i ≠ .wait) (hstop : i ≠ .stop) :
    (s.afterControl i).run = s.run := by
  unfold State.afterControl
  split
  case h_1 => exact absurd rfl hwait
  case h_2 => exact absurd rfl hstop
  all_goals rfl

theorem State.afterControl_seiWindow {s : State} {i : Instr} (hsei : i ≠ .sei) :
    (s.afterControl i).seiWindow = s.seiWindow := by
  unfold State.afterControl
  split
  case h_3 => exact absurd rfl hsei
  all_goals rfl

/-- No move touches the launch or the boundaries to come. -/
theorem step_params_inputs {s t : State} (h : step s = .next t) : t.params = s.params ∧ t.inputs = s.inputs.tail := by
  obtain ⟨u, hb, -, hreset | ⟨src, vector, hinterrupt⟩ | rfl | ⟨-, i, n, -, hexec⟩⟩ := step_cases h
  · have hs := resetMachine_surroundings hreset
    exact ⟨hs.params.trans hb.params, hs.inputs.trans hb.inputs⟩
  · have hs := takeInterrupt_surroundings hinterrupt
    exact ⟨hs.params.trans hb.params, hs.inputs.trans hb.inputs⟩
  · exact ⟨hb.params, hb.inputs⟩
  · obtain ⟨-, hs⟩ := exec_effect hexec
    obtain ⟨-, -, hinputs, hparams⟩ := u.afterControl_frame i
    exact ⟨(hs.params.trans hparams).trans hb.params, (hs.inputs.trans hinputs).trans hb.inputs⟩

/-! ### What a reset loads -/

/-- A reset whose vector can be read completes; it loads what the launch gives and PC from the vector, and keeps memory
(R350). -/
theorem resetMachine_loads {s : State} (hhi : s.readable s.params.resetVector)
    (hlo : s.readable (s.params.resetVector + 1)) :
    ∃ t, resetMachine s = .ok t ∧ t.sp = s.params.resetSp ∧ t.h = s.params.resetH ∧ t.run = .running ∧
      t.seiWindow = false ∧ t.mem = s.mem ∧ (∀ b, s.params.resetA = some b → t.a = b) ∧
      (∀ b, s.params.resetX = some b → t.x = b) ∧ ResetFlags s.params.resetCcr t.ccr ∧
      (s.kindAt s.params.resetVector ≠ .io → s.kindAt (s.params.resetVector + 1) ≠ .io →
        t.pc = joinBytes (s.peek s.params.resetVector) (s.peek (s.params.resetVector + 1))) := by
  obtain ⟨acc, idx, f, d, ha, hx, hf, hreset⟩ := resetMachine_eq_ok s
  have hvector := readWord_of_readable (s := s.resetTo acc idx f d) hhi hlo
  refine ⟨_, (hreset _).mpr ⟨_, _, hvector, rfl⟩, rfl, rfl, rfl, rfl, rfl, ha, hx, hf, fun hhi' hlo' => ?_⟩
  exact congrArg₂ joinBytes (State.readValue_of_not_io hhi') (State.readValue_of_not_io hlo')

/-! ### The CCR as a byte -/

/-- Bits 6 and 5 of the CCR read 1 (R26, D19): a byte that has passed through the CCR has them set, and the CCR's own
byte is one. -/
theorem Ccr.byte_or_fixed_bits (f : Ccr) : f.byte ||| 0x60#8 = f.byte := by
  rw [← Ccr.byte_ofByte, Ccr.ofByte_byte]

end Sys2Proof.Machine

namespace Sys2Proof.Proofs

open Sys2Proof Sys2Proof.Machine

/-- Settles O51: whatever move the boundary calls for, it starts from a state that meets the invariant and keeps it. -/
theorem invariantKept : Obligations.InvariantKept := by
  intro s t hinv hstep
  obtain ⟨u, hb, hw, hmove⟩ := step_cases hstep
  have hu : u.Inv := hinv.of_atBoundary hb hw
  rcases hmove with hreset | ⟨src, vector, hinterrupt⟩ | rfl | ⟨hrun, i, n, -, hexec⟩
  · exact hu.of_resetMachine hreset
  · exact hu.of_takeInterrupt hw hinterrupt
  · exact hu
  · exact hu.of_exec hrun hw hexec

/-- Settles O12: the flags are read back from their bits by `Ccr.ofByte`; bits 6 and 5 are fixed. -/
theorem ccrLayout : Obligations.CcrLayout := by
  refine ⟨fun f => ?_, Ccr.byte_ofByte⟩
  have hback := Ccr.ofByte_byte f
  have hfixed := f.byte_or_fixed_bits
  refine ⟨congrArg Ccr.v hback, ?_, ?_, congrArg Ccr.hf hback, congrArg Ccr.i hback, congrArg Ccr.n hback,
    congrArg Ccr.z hback, congrArg Ccr.c hback, hback⟩
  · rw [← hfixed, BitVec.getLsbD_or]
    exact Bool.or_true _
  · rw [← hfixed, BitVec.getLsbD_or]
    exact Bool.or_true _

/-- Settles O49: every instruction keeps what its profile asks for. -/
theorem flagAndRegisterFrame : Obligations.FlagAndRegisterFrame := by
  intro i s t h
  obtain ⟨⟨hflags, hregs, hpc⟩, -⟩ := exec_effect h
  exact ⟨hflags, hregs, hpc⟩

/-- Settles O50: what an instruction leaves around registers, flags and memory, what a step leaves of the launch, and
what the environment's input does. -/
theorem environmentFrame : Obligations.EnvironmentFrame := by
  refine ⟨fun i s t h => ?_, fun s t => step_params_inputs, fun s => takeInput_nil, fun s e rest h => ?_⟩
  · obtain ⟨-, hs⟩ := exec_effect h
    obtain ⟨hpin, hpending, hinputs, hparams⟩ := s.afterControl_frame i
    exact ⟨hs.irqPin.trans hpin, hs.pending.trans hpending, hs.inputs.trans hinputs, hs.params.trans hparams,
      fun hwait hstop => hs.run.trans (State.afterControl_run hwait hstop),
      fun hsei => hs.seiWindow.trans (State.afterControl_seiWindow hsei)⟩
  · exact ⟨pendingAfter e s, takeInput_cons h, fun p => mem_pendingAfter, nodup_pendingAfter⟩

/-- Settles O56: the reset at the boundary reads the launch and memory of the state before it, because the environment's
input changes neither. -/
theorem resetStep : Obligations.ResetStep := by
  intro s s1 hinput hhi hlo
  have hboundary := boundary_of_reset hinput
  obtain ⟨u, hu⟩ : ∃ u, { s1 with seiWindow := false } = u := ⟨_, rfl⟩
  rw [hu] at hboundary
  have hb : AtBoundary s u := by simpa [hboundary] using (atBoundary_boundary s).1
  have hkind := State.kindAt_congr hb.params
  have hpeek := State.peek_congr hb.mem
  obtain ⟨t, hreset, hsp, hh, hrun, hw, hmem, ha, hx, hf, hpc⟩ := resetMachine_loads (s := u)
    (by simpa only [State.readable, hkind, hb.params] using hhi)
    (by simpa only [State.readable, hkind, hb.params] using hlo)
  simp only [hb.params, hb.mem, hkind, hpeek] at hsp hh hmem ha hx hf hpc
  have hstep : step s = .next t := by simp [step, perform, hboundary, hreset]
  exact ⟨t, hstep, hsp, hh, hrun, hw, hmem, ha, hx, hf.v, hf.hf, hf.i, hf.n, hf.z, hf.c, hpc⟩

/-- Settles O52: the reset state writes nothing in memory, has no request and runs with the late window closed. -/
theorem invariantAtReset : Obligations.InvariantAtReset :=
  ⟨inv_of_running State.reset_mem_wf List.nodup_nil rfl rfl, rfl, by decide, rfl⟩

end Sys2Proof.Proofs
end

section
/-! PROOF. What a byte access does at each kind of address, and the order of the bytes of a 16-bit value in RAM
(spec/20_memory.md R50 to R60). -/

namespace Sys2Proof.Machine

/-! ### One byte -/

/-- A write to RAM changes memory alone (R58). -/
theorem State.afterWrite_of_not_io {s : State} {a : Word} (h : s.kindAt a ≠ .io) (v : Byte) :
    s.afterWrite a v = { s with mem := s.mem.write a.toNat v } := by
  simp [State.afterWrite, h]

/-- A write to an IO address is recorded, and changes nothing else (R60). -/
theorem State.afterWrite_of_io {s : State} {a : Word} (h : s.kindAt a = .io) (v : Byte) :
    s.afterWrite a v = { s with ioTrace := .write a v :: s.ioTrace } := by
  simp [State.afterWrite, h]

theorem State.not_io_of_ram {s : State} {a : Word} (h : s.kindAt a = .ram) : s.kindAt a ≠ .io := by
  rw [h]
  exact nofun

/-- A read of RAM or ROM gives memory's byte and changes nothing (R58, R59). -/
theorem readByte_of_memory {a : Word} {s : State} (h : s.kindAt a = .ram ∨ s.kindAt a = .rom) :
    readByte a s = .ok (s.peek a, s) := by
  rcases h with h | h <;> simp [readByte, State.readValue, State.afterRead, h]

/-- A read of an IO address gives the environment's answer and records it (R60). -/
theorem readByte_of_io {a : Word} {s : State} (h : s.kindAt a = .io) :
    readByte a s = .ok (Config.ioAnswer s.draws a,
      { s with draws := s.draws + 1, ioTrace := .read a (Config.ioAnswer s.draws a) :: s.ioTrace }) := by
  simp [readByte, State.readValue, State.afterRead, h]

theorem readByte_of_unimplemented {a : Word} {s : State} (h : s.kindAt a = .unimplemented) :
    readByte a s = .error (.fault (.illegalAddress a)) := by
  simp [readByte, h]

theorem writeByte_of_rom {a : Word} {s : State} (h : s.kindAt a = .rom) (v : Byte) :
    writeByte a v s = .error (.fault (.writeToRom a)) := by
  simp [writeByte, h]

theorem writeByte_of_unimplemented {a : Word} {s : State} (h : s.kindAt a = .unimplemented) (v : Byte) :
    writeByte a v s = .error (.fault (.illegalAddress a)) := by
  simp [writeByte, h]

/-! ### Two bytes -/

theorem ne_add_one (a : Word) : a ≠ a + 1 := by bv_omega

end Sys2Proof.Machine

namespace Sys2Proof.Proofs

open Sys2Proof Sys2Proof.Machine

/-- Settles O8: what the address is decides between memory's byte, the environment's answer and the fault. -/
theorem byteReadByKind : Obligations.ByteReadByKind := fun _ _ =>
  ⟨fun h => readByte_of_memory (.inl h), fun h => readByte_of_memory (.inr h), readByte_of_unimplemented,
    fun h => ⟨_, readByte_of_io h⟩⟩

/-- Settles O9: a write to RAM is read back and leaves every other byte; ROM and an unimplemented address fault; an IO
address leaves memory alone. -/
theorem byteWriteByKind : Obligations.ByteWriteByKind := by
  refine fun a v s => ⟨fun h => ?_, fun h => writeByte_of_rom h v, fun h => writeByte_of_unimplemented h v, fun h => ?_⟩
  · have hio := State.not_io_of_ram h
    refine ⟨_, writeByte_of_writable (.inl h), ?_, State.peek_afterWrite_same hio v,
      fun b hb => State.peek_afterWrite_other s hb v⟩
    rw [State.afterWrite_of_not_io hio]
  · rw [writeByte_of_writable (.inr h), State.afterWrite_of_io h]

/-- Settles O10: the second of the two writes leaves the first byte alone, because the two addresses differ even where
the second wraps to `$0000` (D3). -/
theorem wordBigEndian : Obligations.WordBigEndian := by
  intro a v s hhi hlo
  obtain ⟨t, ht⟩ : ∃ t, t = (s.afterWrite a (hiByte v)).afterWrite (a + 1) (loByte v) := ⟨_, rfl⟩
  have hkind : ∀ b, t.kindAt b = s.kindAt b := State.kindAt_congr (by rw [ht]; rfl)
  have hpeekHi : t.peek a = hiByte v := by
    rw [ht, State.peek_afterWrite_other _ (ne_add_one a), State.peek_afterWrite_same (State.not_io_of_ram hhi)]
  have hpeekLo : t.peek (a + 1) = loByte v := by
    rw [ht]
    exact State.peek_afterWrite_same (s := s.afterWrite a (hiByte v)) (State.not_io_of_ram hlo) _
  refine ⟨t, ?_, hpeekHi, hpeekLo, ?_, fun b hb hb' => ?_⟩
  · rw [ht, writeWord_of_writable (.inl hhi) (.inl hlo)]
  · simp only [readWord, readByte_of_memory (.inl ((hkind a).trans hhi)),
      readByte_of_memory (.inl ((hkind (a + 1)).trans hlo)), ok_bind, hpeekHi, hpeekLo, joinBytes_hiByte_loByte]
  · rw [ht, State.peek_afterWrite_other _ hb', State.peek_afterWrite_other _ hb]

end Sys2Proof.Proofs
end

section
/-! PROOF. Where a fetch stops (spec/20_memory.md R61, spec/30_encoding.md R83, R103, spec/60_exceptions.md R312): at the
first byte that cannot be fetched while the bytes before it are not yet an instruction, or at an opcode assigned to no
instruction. -/

namespace Sys2Proof

/-! ### The decoder on the first bytes of a list -/

/-- A row that lacks operand bytes lacks them with fewer bytes too. -/
theorem Row.fill_short_of_append {row : Row} {opcode l l' : List Byte} (h : row.fill opcode (l ++ l') = .short) :
    row.fill opcode l = .short := by
  cases row with
  | unassigned | op0 => cases h
  | op1 f =>
    cases l with
    | nil => rfl
    | cons b l => cases h
  | op2 f | opw f =>
    match l with
    | [] | [_] => rfl
    | _ :: _ :: _ => cases h

/-- Where bytes are too few for an instruction, the first of them are too (R83). -/
theorem decode_short_of_append {l l' : List Byte} (h : decode (l ++ l') = .short) : decode l = .short := by
  match l with
  | [] => rfl
  | b0 :: rest =>
    simp only [List.cons_append, decode] at h ⊢
    split at h
    · next hpage2 =>
      rw [if_pos hpage2]
      match rest with
      | [] => rfl
      | b1 :: rest => exact Row.fill_short_of_append h
    · next hpage1 =>
      rw [if_neg hpage1]
      exact Row.fill_short_of_append h

/-- An unassigned row reports its own opcode. -/
theorem Row.opcode_of_fill_illegal {row : Row} {opcode operands op : List Byte}
    (h : row.fill opcode operands = .illegal op) : op = opcode := by
  unfold Row.fill at h
  split at h <;> cases h
  rfl

/-- The six unassigned opcodes of page 1 (R102). -/
theorem decode_unassigned_page1 {b : Byte} (h : b ∈ ([0x32, 0x3E, 0x82, 0x8D, 0x96, 0xAC] : List Byte)) :
    decode [b] = .illegal [b] := by
  simp only [List.mem_cons, List.not_mem_nil, or_false] at h
  rcases h with rfl | rfl | rfl | rfl | rfl | rfl <;> rfl

/-- A pair of bytes after `9E` is reported as it stands (R103). -/
theorem decode_illegal_page2 {b : Byte} {op : List Byte} (h : decode [0x9E, b] = .illegal op) : op = [0x9E, b] :=
  Row.opcode_of_fill_illegal (row := Opcodes.cell Opcodes.page2 b) h

namespace Machine

/-! ### The fetch -/

theorem fetchByte_of_io {a : Word} {s : State} (h : s.kindAt a = .io) :
    fetchByte a s = .error (.refused (.fetchFromIo a)) := by
  simp [fetchByte, h]

theorem fetchByte_of_unimplemented {a : Word} {s : State} (h : s.kindAt a = .unimplemented) :
    fetchByte a s = .error (.fault (.illegalAddress a)) := by
  simp [fetchByte, h]

/-- The fetch stops where it needs one byte more than the `n` it could fetch, and that byte stops it. -/
theorem fetchFrom_of_stop {s : State} {e : Stop} {n fuel : Nat} {a : Word} {before : List Byte} (hn : n < fuel)
    (hrange : s.fetchableRange a n = true) (hshort : decode (before ++ s.bytesAt a n) = .short)
    (hstop : fetchByte (a + BitVec.ofNat 16 n) s = .error e) : fetchFrom fuel a before s = .error e := by
  induction n generalizing fuel a before with
  | zero =>
    obtain ⟨fuel, rfl⟩ : ∃ k, fuel = k + 1 := ⟨fuel - 1, by omega⟩
    rw [show a + BitVec.ofNat 16 0 = a by simp] at hstop
    simp only [fetchFrom, hstop]
    rfl
  | succ n ih =>
    obtain ⟨fuel, rfl⟩ : ∃ k, fuel = k + 1 := ⟨fuel - 1, by omega⟩
    simp only [State.fetchableRange, Bool.and_eq_true, decide_eq_true_eq] at hrange
    obtain ⟨hfetchable, hrange⟩ := hrange
    have hshort' : decode ((before ++ [s.peek a]) ++ s.bytesAt (a + 1) n) = .short := by
      simpa [State.bytesAt] using hshort
    have haddr : a + BitVec.ofNat 16 (n + 1) = a + 1 + BitVec.ofNat 16 n := by
      rw [BitVec.ofNat_add, BitVec.add_comm (BitVec.ofNat 16 n), ← BitVec.add_assoc]
      rfl
    simp only [fetchFrom, fetchByte_of_fetchable hfetchable, ok_bind, decode_short_of_append hshort']
    exact ih (by omega) hrange hshort' (haddr ▸ hstop)

theorem fetch_of_stop {s : State} {e : Stop} {n : Nat} (hn : n < 4) (hrange : s.fetchableRange s.pc n = true)
    (hshort : decode (s.bytesAt s.pc n) = .short) (hstop : fetchByte (s.pc + BitVec.ofNat 16 n) s = .error e) :
    fetch s = .error e :=
  fetchFrom_of_stop hn hrange hshort hstop

/-- An unassigned byte is fetched and reported. -/
theorem fetch_of_unassigned_page1 {s : State} (h : s.fetchable s.pc)
    (hb : s.peek s.pc ∈ ([0x32, 0x3E, 0x82, 0x8D, 0x96, 0xAC] : List Byte)) :
    fetch s = .ok (.illegal [s.peek s.pc]) := by
  refine fetchFrom_of_decode [s.peek s.pc] [] s.pc 4 (by simp) (by simp) rfl ?_ (decode_unassigned_page1 hb) (by simp)
    fun k hk => ?_
  · simp [State.fetchableRange, h]
  · obtain rfl : k = 0 := by simpa using hk
    rfl

/-- The byte `9E` is fetched, and the byte after it; an unassigned pair is reported. -/
theorem fetch_of_illegal_page2 {s : State} {op : List Byte} (h0 : s.fetchable s.pc) (hb0 : s.peek s.pc = 0x9E)
    (h1 : s.fetchable (s.pc + 1)) (hop : decode [0x9E, s.peek (s.pc + 1)] = .illegal op) :
    fetch s = .ok (.illegal [0x9E, s.peek (s.pc + 1)]) := by
  have hop' := decode_illegal_page2 hop
  refine fetchFrom_of_decode [0x9E, s.peek (s.pc + 1)] [] s.pc 4 (by simp) (by simp) ?_ ?_ (hop' ▸ hop) (by simp)
    fun k hk => ?_
  · simp [State.bytesAt, hb0]
  · simp only [List.length_cons, List.length_nil, State.fetchableRange, h0, h1, decide_true, Bool.and_self]
  · obtain rfl | rfl : k = 0 ∨ k = 1 := by simp at hk; omega
    · rfl
    · rfl

/-! ### Running what was fetched -/

theorem executeNext_of_stop {s : State} {e : Stop} (h : fetch s = .error e) : executeNext s = finish (.error e) := by
  simp only [executeNext, h]

/-- An unassigned opcode faults, or resets where the launch asks for it (R312, log 12). -/
theorem executeNext_of_illegal {s : State} {opcode : List Byte} (h : fetch s = .ok (.illegal opcode)) :
    executeNext s = if s.params.illegalOpcodeResets then finish (resetMachine s)
      else .fault (.illegalOpcode s.pc opcode) := by
  simp only [executeNext, h]

end Machine

end Sys2Proof

namespace Sys2Proof.Proofs

open Sys2Proof Sys2Proof.Machine

/-- Settles O7: the step is what the fetch ends in. -/
theorem stepStops : Obligations.StepStops := by
  intro s s1 hexec
  rw [step_of_boundary_execute hexec]
  refine ⟨fun n hn hrange hshort => ⟨fun hio => ?_, fun hun => ?_⟩, fun h hb => ?_, fun h0 hb0 h1 ⟨op, hop⟩ => ?_⟩
  · rw [executeNext_of_stop (fetch_of_stop hn hrange hshort (fetchByte_of_io hio))]
    rfl
  · rw [executeNext_of_stop (fetch_of_stop hn hrange hshort (fetchByte_of_unimplemented hun))]
    rfl
  · exact executeNext_of_illegal (fetch_of_unassigned_page1 h hb)
  · exact executeNext_of_illegal (fetch_of_illegal_page2 h0 hb0 h1 hop)

end Sys2Proof.Proofs
end

section
/-! PROOF. The data accesses of an instruction (spec/20_memory.md R53, R54, R58 to R60, R66): each meaning makes the
accesses of its list, in that order, up to the first that `MEMMAP` does not allow. Reads and writes of one byte say so
of themselves, and a meaning is a sequence of them. -/

namespace Sys2Proof.Machine

/-! ### What accesses leave behind -/

/-- No access lies between `s` and `t`: the launch, memory and the record of IO accesses are the same. -/
structure SameBus (s t : State) : Prop where
  params : t.params = s.params
  mem : t.mem = s.mem
  ioTrace : t.ioTrace = s.ioTrace

/-- `t` is what the accesses `l`, all made, leave of `s`: those to IO addresses are recorded in order, and every byte
that none of them writes is unchanged. -/
structure Performed (l : List Access) (s t : State) : Prop where
  params : t.params = s.params
  trace : t.ioTrace.map IoAccess.access = (l.filter (fun x => x.toIo s)).reverse ++ s.ioTrace.map IoAccess.access
  frame : ∀ b, .write b ∉ l → t.peek b = s.peek b
  mem : (∀ a, .write a ∉ l) → t.mem = s.mem

section Launch

variable {s t : State} (h : t.params = s.params)

include h

theorem Access.allowed_congr (x : Access) : x.allowed t = x.allowed s := by
  cases x <;> simp only [Access.allowed, State.readable, State.writable, State.kindAt_congr h]

theorem Access.faultOf_congr (x : Access) : x.faultOf t = x.faultOf s := by
  cases x <;> simp only [Access.faultOf, State.kindAt_congr h]

theorem Access.toIo_congr (x : Access) : x.toIo t = x.toIo s := by
  cases x <;> simp only [Access.toIo, State.kindAt_congr h]

end Launch

theorem SameBus.performed {s t : State} (h : SameBus s t) : Performed [] s t where
  params := h.params
  trace := by simp [h.ioTrace]
  frame b _ := State.peek_congr h.mem b
  mem _ := h.mem

theorem Performed.append {l l' : List Access} {s u t : State} (h : Performed l s u) (h' : Performed l' u t) :
    Performed (l ++ l') s t where
  params := h'.params.trans h.params
  trace := by
    simp only [h'.trace, h.trace, Access.toIo_congr h.params, List.filter_append, List.reverse_append,
      List.append_assoc]
  frame b hb := by
    obtain ⟨hl, hl'⟩ := not_or.mp (mt List.mem_append.mpr hb)
    exact (h'.frame b hl').trans (h.frame b hl)
  mem hw := by
    have hl : ∀ a, .write a ∉ l := fun a ha => hw a (List.mem_append_left _ ha)
    have hl' : ∀ a, .write a ∉ l' := fun a ha => hw a (List.mem_append_right _ ha)
    exact (h'.mem hl').trans (h.mem hl)

theorem performed_afterRead (s : State) (a : Word) : Performed [.read a] s (s.afterRead a) where
  params := rfl
  trace := by
    by_cases hio : s.kindAt a = .io <;> simp [hio, Access.toIo, IoAccess.access]
  frame _ _ := rfl
  mem _ := rfl

theorem performed_afterWrite (s : State) (a : Word) (v : Byte) : Performed [.write a] s (s.afterWrite a v) where
  params := rfl
  trace := by
    by_cases hio : s.kindAt a = .io <;> simp [hio, Access.toIo, IoAccess.access]
  frame b hb := State.peek_afterWrite_other s (fun h => hb (by simp [h])) v
  mem hw := absurd List.mem_cons_self (hw a)

/-! ### Operations that make the accesses of a list -/

/-- The first access of the list that `MEMMAP` does not allow. -/
def firstForbidden (l : List Access) (s : State) : Option Access := l.find? (fun x => !x.allowed s)

theorem firstForbidden_congr {s t : State} (h : t.params = s.params) (l : List Access) :
    firstForbidden l t = firstForbidden l s := by
  simp only [firstForbidden, Access.allowed_congr h]

theorem firstForbidden_append (l l' : List Access) (s : State) :
    firstForbidden (l ++ l') s = (firstForbidden l s).or (firstForbidden l' s) :=
  List.find?_append

/-- An operation from `s` that makes the accesses `l` in order: it completes if all of them are allowed, and ends in the
fault of the first that is not. `st` is the state in what the operation answers. -/
inductive Makes {α : Type} (st : α → State) (s : State) : Except Stop α → List Access → Prop
  | completes {l : List Access} {a : α} (hallowed : firstForbidden l s = none) (h : Performed l s (st a)) :
    Makes st s (.ok a) l
  | faults {l : List Access} {x : Access} (hforbidden : firstForbidden l s = some x) :
    Makes st s (.error (.fault (x.faultOf s))) l

namespace Makes

variable {α β : Type} {st : α → State} {st' : β → State} {l l' : List Access} {x : Access} {s s' t : State}
  {r : Except Stop α} {f : α → Except Stop β} {a : α}

/-- An operation with no access. -/
theorem done (h : SameBus s (st a)) : Makes st s (.ok a) [] := .completes rfl h.performed

/-- An operation with one access. -/
theorem completes_one (hallowed : x.allowed s = true) (h : Performed [x] s (st a)) : Makes st s (.ok a) [x] :=
  .completes (by simp [firstForbidden, hallowed]) h

theorem faults_one (h : x.allowed s = false) : Makes st s (.error (.fault (x.faultOf s))) [x] :=
  .faults (by simp [firstForbidden, h])

/-- One operation after another, from the state that the first leaves. -/
theorem bind (h : Makes st s r l) (hf : ∀ a, r = .ok a → Makes st' (st a) (f a) l') :
    Makes st' s (r >>= f) (l ++ l') := by
  cases h with
  | faults hforbidden => exact .faults (by rw [firstForbidden_append, hforbidden, Option.some_or])
  | @completes _ a hallowed hl =>
    have happend : firstForbidden (l ++ l') s = firstForbidden l' (st a) := by
      rw [firstForbidden_append, hallowed, Option.none_or, firstForbidden_congr hl.params]
    have ha := hf a rfl
    rw [ok_bind]
    generalize f a = r' at ha ⊢
    cases ha with
    | completes hallowed' hl' => exact .completes (happend.trans hallowed') (hl.append hl')
    | faults hforbidden =>
      rw [Access.faultOf_congr hl.params]
      exact .faults (happend.trans hforbidden)

/-- What follows makes no access. -/
theorem bind_ok (h : Makes st s r l) (hf : ∀ a, ∃ b, f a = .ok b ∧ SameBus (st a) (st' b)) :
    Makes st' s (r >>= f) l := by
  rw [← List.append_nil l]
  refine h.bind fun a _ => ?_
  obtain ⟨b, hb, hbus⟩ := hf a
  rw [hb]
  exact .done hbus

/-- What came before made no access. -/
theorem of_sameBus (h : Makes st s' r l) (hbus : SameBus s s') : Makes st s r l :=
  bind (st := id) (r := .ok s') (f := fun _ => r) (done hbus) fun _ e => Except.ok.inj e ▸ h

end Makes

/-! ### Bytes and words -/

section Accesses

variable (a v : Word) (b : Byte) (s : State)

theorem readByte_makes : Makes Prod.snd s (readByte a s) [.read a] := by
  unfold readByte
  split
  · next h => exact .faults_one (x := .read a) (by simp [Access.allowed, h])
  · next h => exact .completes_one (by simp [Access.allowed, h]) (performed_afterRead s a)

theorem writeByte_makes : Makes id s (writeByte a b s) [.write a] := by
  have hfault (h : s.kindAt a = .rom ∨ s.kindAt a = .unimplemented) :
      Makes id s (.error (.fault ((Access.write a).faultOf s))) [.write a] :=
    .faults_one (by rcases h with h | h <;> simp [Access.allowed, h])
  have hok (h : s.writable a) : Makes id s (.ok (s.afterWrite a b)) [.write a] :=
    .completes_one (decide_eq_true h) (performed_afterWrite s a b)
  unfold writeByte
  split
  · next h => simpa [Access.faultOf, h] using hfault (.inr h)
  · next h => simpa [Access.faultOf, h] using hfault (.inl h)
  · next h => exact hok (.inl h)
  · next h => exact hok (.inr h)

theorem readWord_makes : Makes Prod.snd s (readWord a s) [.read a, .read (a + 1)] :=
  (readByte_makes a s).bind fun p _ => (readByte_makes (a + 1) p.2).bind_ok fun _ => ⟨_, rfl, rfl, rfl, rfl⟩

theorem writeWord_makes : Makes id s (writeWord a v s) [.write a, .write (a + 1)] :=
  (writeByte_makes a _ s).bind fun t _ => writeByte_makes (a + 1) _ t

end Accesses

/-! ### The stack -/

section Stack

variable {s t : State} {a v vector : Word} {b : Byte} {p : Byte × State}

theorem push8_sp (h : push8 b s = .ok t) : t.sp = s.sp - 1 := by
  obtain ⟨-, rfl⟩ := push8_eq_ok.mp h
  rfl

theorem pull8_sp (h : pull8 s = .ok p) : p.2.sp = s.sp + 1 := by
  obtain ⟨-, rfl⟩ := pull8_eq_ok.mp h
  rfl

theorem push8_makes (h : s.sp = a) : Makes id s (push8 b s) [.write a] :=
  h ▸ (writeByte_makes s.sp b s).bind_ok fun _ => ⟨_, rfl, rfl, rfl, rfl⟩

theorem pull8_makes (h : s.sp + 1 = a) : Makes Prod.snd s (pull8 s) [.read a] :=
  h ▸ .of_sameBus (s' := { s with sp := s.sp + 1 }) (readByte_makes ..) ⟨rfl, rfl, rfl⟩

theorem pushWord_makes : Makes id s (pushWord v s) [.write s.sp, .write (s.sp - 1)] :=
  (push8_makes rfl).bind fun _ h => push8_makes (push8_sp h)

theorem pullWord_makes : Makes Prod.snd s (pullWord s) [.read (s.sp + 1), .read (s.sp + 2)] :=
  (pull8_makes rfl).bind fun p h => (pull8_makes (s := p.2) (by rw [pull8_sp h, BitVec.add_assoc]; rfl)).bind_ok
    fun _ => ⟨_, rfl, rfl, rfl, rfl⟩

end Stack

/-! ### Exceptions -/

theorem enterException_makes (ret vector : Word) (s : State) :
    Makes id s (enterException ret vector s) [.write s.sp, .write (s.sp - 1), .write (s.sp - 2), .write (s.sp - 3),
      .write (s.sp - 4), .read vector, .read (vector + 1)] := by
  refine pushWord_makes.bind fun s1 h1 => ?_
  have sp1 : s1.sp = s.sp - 2 := by
    obtain ⟨-, -, rfl⟩ := pushWord_eq_ok.mp h1
    exact sub_sub s.sp 1 1
  refine (push8_makes sp1).bind fun s2 h2 => ?_
  have sp2 : s2.sp = s.sp - 3 := by rw [push8_sp h2, sp1]; exact sub_sub s.sp 2 1
  refine (push8_makes sp2).bind fun s3 h3 => ?_
  have sp3 : s3.sp = s.sp - 4 := by rw [push8_sp h3, sp2]; exact sub_sub s.sp 3 1
  refine (push8_makes sp3).bind fun s4 _ => ?_
  exact .bind_ok (st := Prod.snd) (.of_sameBus (readWord_makes ..) ⟨rfl, rfl, rfl⟩) fun _ => ⟨_, rfl, rfl, rfl, rfl⟩

theorem returnFromException_makes (s : State) :
    Makes id s (returnFromException s) [.read (s.sp + 1), .read (s.sp + 2), .read (s.sp + 3), .read (s.sp + 4),
      .read (s.sp + 5)] := by
  refine (pull8_makes rfl).bind fun p1 h1 => ?_
  have sp1 : p1.2.sp = s.sp + 1 := pull8_sp h1
  refine (pull8_makes (by rw [sp1]; exact add_assoc s.sp 1 1)).bind fun p2 h2 => ?_
  have sp2 : p2.2.sp = s.sp + 2 := by rw [pull8_sp h2, sp1]; exact add_assoc s.sp 1 1
  refine (pull8_makes (by rw [sp2]; exact add_assoc s.sp 2 1)).bind fun p3 h3 => ?_
  have sp3 : p3.2.sp = s.sp + 3 := by rw [pull8_sp h3, sp2]; exact add_assoc s.sp 2 1
  have hpch : p3.2.sp + 1 = s.sp + 4 := by rw [sp3]; exact add_assoc s.sp 3 1
  have hpcl : p3.2.sp + 2 = s.sp + 5 := by rw [sp3]; exact add_assoc s.sp 3 2
  rw [← hpch, ← hpcl]
  exact pullWord_makes.bind_ok fun _ => ⟨_, rfl, rfl, rfl, rfl⟩

/-! ### Operands -/

/-- The accesses that read a source operand: none for an immediate (R86). -/
def srcReads (o : Src) (s : State) : List Access :=
  match o with
  | .imm _ => []
  | .mem e => [.read (eaOf e s)]

theorem loadSrc_makes (o : Src) (s : State) : Makes Prod.snd s (loadSrc o s) (srcReads o s) := by
  cases o with
  | imm ii => exact .done ⟨rfl, rfl, rfl⟩
  | mem e => exact readByte_makes _ s

/-- The accesses that read a place: none for a register. -/
def placeReads (p : Place) (s : State) : List Access :=
  match placeEa p with
  | none => []
  | some e => [.read (eaOf e s)]

/-- The accesses that write a place: none for a register. -/
def placeWrites (p : Place) (s : State) : List Access :=
  match placeEa p with
  | none => []
  | some e => [.write (eaOf e s)]

theorem loadPlace_makes (p : Place) (s : State) : Makes Prod.snd s (loadPlace p s) (placeReads p s) := by
  cases p with
  | a | x => exact .done ⟨rfl, rfl, rfl⟩
  | dir | ix1 | ix | sp1 => exact readByte_makes _ s

theorem storePlace_makes (p : Place) (b : Byte) (s : State) :
    Makes id s (storePlace p b s) (placeWrites p s) := by
  cases p with
  | a | x => exact .done ⟨rfl, rfl, rfl⟩
  | dir | ix1 | ix | sp1 => exact writeByte_makes _ b s

/-- Reading a place does not move it. -/
theorem placeWrites_of_loadPlace {p : Place} {s : State} {q : Byte × State} (h : loadPlace p s = .ok q) :
    placeWrites p q.2 = placeWrites p s := by
  obtain ⟨-, rfl⟩ := loadPlace_eq_ok.mp h
  cases p <;> rfl

/-! ### The meanings -/

section Meanings

variable (f : Byte → Byte → Byte) (g : Byte → Ccr → Byte × Ccr) (bit : Byte → Byte) (o : Src) (p : Place) (c : Bool)
  (n len : Nat) (b dd rr : Byte) (a dest : Word) (s : State)

theorem addA_makes : Makes id s (addA c o s) (srcReads o s) :=
  (loadSrc_makes o s).bind_ok fun _ => ⟨_, rfl, rfl, rfl, rfl⟩

theorem subA_makes : Makes id s (subA c o s) (srcReads o s) :=
  (loadSrc_makes o s).bind_ok fun _ => ⟨_, rfl, rfl, rfl, rfl⟩

theorem compare8_makes : Makes id s (compare8 b o s) (srcReads o s) :=
  (loadSrc_makes o s).bind_ok fun _ => ⟨_, rfl, rfl, rfl, rfl⟩

theorem testBits_makes : Makes id s (testBits o s) (srcReads o s) :=
  (loadSrc_makes o s).bind_ok fun _ => ⟨_, rfl, rfl, rfl, rfl⟩

theorem loadA_makes : Makes id s (loadA o s) (srcReads o s) :=
  (loadSrc_makes o s).bind_ok fun _ => ⟨_, rfl, rfl, rfl, rfl⟩

theorem loadX_makes : Makes id s (loadX o s) (srcReads o s) :=
  (loadSrc_makes o s).bind_ok fun _ => ⟨_, rfl, rfl, rfl, rfl⟩

theorem logicA_makes : Makes id s (logicA f o s) (srcReads o s) :=
  (loadSrc_makes o s).bind_ok fun _ => ⟨_, rfl, rfl, rfl, rfl⟩

theorem storeReg_makes (e : Ea) : Makes id s (storeReg b e s) [.write (eaOf e s)] :=
  (writeByte_makes _ b s).bind_ok fun _ => ⟨_, rfl, rfl, rfl, rfl⟩

/-- A place that is read and written back is read first (R65). -/
theorem modifyPlace_makes : Makes id s (modifyPlace p g s) (placeReads p s ++ placeWrites p s) :=
  (loadPlace_makes p s).bind fun q h => placeWrites_of_loadPlace h ▸
    (storePlace_makes p _ q.2).bind_ok fun _ => ⟨_, rfl, rfl, rfl, rfl⟩

theorem decrementBranch_makes : Makes id s (decrementBranch p rr s) (placeReads p s ++ placeWrites p s) :=
  (loadPlace_makes p s).bind fun q h => placeWrites_of_loadPlace h ▸
    (storePlace_makes p _ q.2).bind_ok fun _ => ⟨_, rfl, rfl, rfl, rfl⟩

/-- CLR does not read (R66 (c)). -/
theorem clearPlace_makes : Makes id s (clearPlace p s) (placeWrites p s) :=
  (storePlace_makes p 0 s).bind_ok fun _ => ⟨_, rfl, rfl, rfl, rfl⟩

theorem testPlace_makes : Makes id s (testPlace p s) (placeReads p s) :=
  (loadPlace_makes p s).bind_ok fun _ => ⟨_, rfl, rfl, rfl, rfl⟩

theorem changeBit_makes : Makes id s (changeBit bit dd s) [.read (zext16 dd), .write (zext16 dd)] :=
  (readByte_makes _ s).bind fun q _ => (writeByte_makes _ _ q.2).bind_ok fun _ => ⟨_, rfl, rfl, rfl, rfl⟩

theorem branchOnBit_makes : Makes id s (branchOnBit c n dd rr s) [.read (zext16 dd)] :=
  (readByte_makes _ s).bind_ok fun _ => ⟨_, rfl, rfl, rfl, rfl⟩

theorem compareBranch_makes : Makes id s (compareBranch a len rr s) [.read a] :=
  (readByte_makes a s).bind_ok fun _ => ⟨_, rfl, rfl, rfl, rfl⟩

theorem compareBranchBump_makes : Makes id s (compareBranchBump a len rr s) [.read a] :=
  (compareBranch_makes len rr a s).bind_ok fun _ => ⟨_, rfl, rfl, rfl, rfl⟩

theorem moveByte_makes : Makes id s (moveByte b dest len s) [.write dest] :=
  (writeByte_makes dest b s).bind_ok fun _ => ⟨_, rfl, rfl, rfl, rfl⟩

/-- The source of a move is read first (R66 (d)). -/
theorem moveMem_makes : Makes id s (moveMem a dest len s) [.read a, .write dest] :=
  (readByte_makes a s).bind fun q _ => moveByte_makes len q.1 dest q.2

theorem moveMemBump_makes : Makes id s (moveMemBump a dest len s) [.read a, .write dest] :=
  (moveMem_makes len a dest s).bind_ok fun _ => ⟨_, rfl, rfl, rfl, rfl⟩

theorem loadHxDir_makes : Makes id s (loadHxDir dd s) [.read (zext16 dd), .read (zext16 dd + 1)] :=
  (readWord_makes _ s).bind_ok fun _ => ⟨_, rfl, rfl, rfl, rfl⟩

theorem compareHxDir_makes : Makes id s (compareHxDir dd s) [.read (zext16 dd), .read (zext16 dd + 1)] :=
  (readWord_makes _ s).bind_ok fun _ => ⟨_, rfl, rfl, rfl, rfl⟩

theorem storeHxDir_makes : Makes id s (storeHxDir dd s) [.write (zext16 dd), .write (zext16 dd + 1)] :=
  (writeWord_makes _ s.hx s).bind_ok fun _ => ⟨_, rfl, rfl, rfl, rfl⟩

theorem pushReg_makes : Makes id s (pushReg b s) [.write s.sp] :=
  (push8_makes rfl).bind_ok fun _ => ⟨_, rfl, rfl, rfl, rfl⟩

theorem pullA_makes : Makes id s (pullA s) [.read (s.sp + 1)] :=
  (pull8_makes rfl).bind_ok fun _ => ⟨_, rfl, rfl, rfl, rfl⟩

theorem pullH_makes : Makes id s (pullH s) [.read (s.sp + 1)] :=
  (pull8_makes rfl).bind_ok fun _ => ⟨_, rfl, rfl, rfl, rfl⟩

theorem pullX_makes : Makes id s (pullX s) [.read (s.sp + 1)] :=
  (pull8_makes rfl).bind_ok fun _ => ⟨_, rfl, rfl, rfl, rfl⟩

theorem branchToSub_makes : Makes id s (branchToSub rr s) [.write s.sp, .write (s.sp - 1)] :=
  pushWord_makes.bind_ok fun _ => ⟨_, rfl, rfl, rfl, rfl⟩

theorem jumpToSub_makes (j : JumpForm) : Makes id s (jumpToSub j s) [.write s.sp, .write (s.sp - 1)] :=
  pushWord_makes.bind_ok fun _ => ⟨_, rfl, rfl, rfl, rfl⟩

theorem returnFromSub_makes : Makes id s (returnFromSub s) [.read (s.sp + 1), .read (s.sp + 2)] :=
  pullWord_makes.bind_ok fun _ => ⟨_, rfl, rfl, rfl, rfl⟩

/-- DAA and DIV draw, but make no access. -/
theorem decimalAdjust_sameBus : SameBus s (decimalAdjust s) := by
  unfold decimalAdjust
  split <;> exact ⟨rfl, rfl, rfl⟩

theorem divide_sameBus : SameBus s (divide s) := by
  simp only [divide]
  split <;> exact ⟨rfl, rfl, rfl⟩

end Meanings

/-! ### Every instruction -/

/-- The outcome of an operation that makes the accesses `l`. -/
def Runs (s : State) (o : Host.Outcome State Fault Refusal) (l : List Access) : Prop :=
  ∃ r, o = finish r ∧ Makes id s r l

theorem Makes.runs {s : State} {r : Except Stop State} {l : List Access} (h : Makes id s r l) :
    Runs s (finish r) l :=
  ⟨r, rfl, h⟩

theorem SameBus.runs {s t : State} (h : SameBus s t) : Runs s (.next t) [] :=
  ⟨.ok t, rfl, .done h⟩

theorem Runs.completes {s : State} {o : Host.Outcome State Fault Refusal} {l : List Access} (h : Runs s o l)
    (hallowed : firstForbidden l s = none) : ∃ t, o = .next t := by
  obtain ⟨r, rfl, hmakes⟩ := h
  cases hmakes with
  | completes => exact ⟨_, rfl⟩
  | faults hforbidden => cases hallowed.symm.trans hforbidden

theorem Runs.faults {s : State} {o : Host.Outcome State Fault Refusal} {l : List Access} {x : Access}
    (h : Runs s o l) (hforbidden : firstForbidden l s = some x) : o = .fault (x.faultOf s) := by
  obtain ⟨r, rfl, hmakes⟩ := h
  cases hmakes with
  | completes hallowed => cases hallowed.symm.trans hforbidden
  | faults hfirst =>
    cases hfirst.symm.trans hforbidden
    rfl

/-- An operation that completes has made all its accesses. -/
theorem Runs.performed {s t : State} {l : List Access} (h : Runs s (.next t) l) : Performed l s t := by
  obtain ⟨r, hr, hmakes⟩ := h
  cases finish_eq_next.mp hr.symm
  cases hmakes with
  | completes _ hperformed => exact hperformed

/-- Every instruction makes the accesses of its list. -/
theorem exec_runs (i : Instr) (s : State) : Runs s (exec i s) (accesses i s) := by
  cases i with
  | addDir | addExt | addIx2 | addIx1 | addIx | addSp2 | addSp1 | adcDir | adcExt | adcIx2 | adcIx1 | adcIx
  | adcSp2 | adcSp1 =>
    exact (addA_makes ..).runs
  | subDir | subExt | subIx2 | subIx1 | subIx | subSp2 | subSp1 | sbcDir | sbcExt | sbcIx2 | sbcIx1 | sbcIx
  | sbcSp2 | sbcSp1 =>
    exact (subA_makes ..).runs
  | cmpDir | cmpExt | cmpIx2 | cmpIx1 | cmpIx | cmpSp2 | cmpSp1 | cpxDir | cpxExt | cpxIx2 | cpxIx1 | cpxIx
  | cpxSp2 | cpxSp1 =>
    exact (compare8_makes ..).runs
  | bitDir | bitExt | bitIx2 | bitIx1 | bitIx | bitSp2 | bitSp1 => exact (testBits_makes ..).runs
  | ldaDir | ldaExt | ldaIx2 | ldaIx1 | ldaIx | ldaSp2 | ldaSp1 => exact (loadA_makes ..).runs
  | ldxDir | ldxExt | ldxIx2 | ldxIx1 | ldxIx | ldxSp2 | ldxSp1 => exact (loadX_makes ..).runs
  | andDir | andExt | andIx2 | andIx1 | andIx | andSp2 | andSp1 | oraDir | oraExt | oraIx2 | oraIx1 | oraIx
  | oraSp2 | oraSp1 | eorDir | eorExt | eorIx2 | eorIx1 | eorIx | eorSp2 | eorSp1 =>
    exact (logicA_makes ..).runs
  | staDir | staExt | staIx2 | staIx1 | staIx | staSp2 | staSp1 | stxDir | stxExt | stxIx2 | stxIx1 | stxIx
  | stxSp2 | stxSp1 =>
    exact (storeReg_makes ..).runs
  | negDir | negIx1 | negIx | negSp1 | comDir | comIx1 | comIx | comSp1
  | lsrDir | lsrIx1 | lsrIx | lsrSp1 | rorDir | rorIx1 | rorIx | rorSp1
  | asrDir | asrIx1 | asrIx | asrSp1 | lslDir | lslIx1 | lslIx | lslSp1
  | rolDir | rolIx1 | rolIx | rolSp1 | decDir | decIx1 | decIx | decSp1
  | incDir | incIx1 | incIx | incSp1 =>
    exact (modifyPlace_makes ..).runs
  | dbnzDir | dbnzIx1 | dbnzIx | dbnzSp1 => exact (decrementBranch_makes ..).runs
  | clrDir | clrIx1 | clrIx | clrSp1 => exact (clearPlace_makes ..).runs
  | tstDir | tstIx1 | tstIx | tstSp1 => exact (testPlace_makes ..).runs
  | bset0 | bset1 | bset2 | bset3 | bset4 | bset5 | bset6 | bset7 | bclr0 | bclr1 | bclr2 | bclr3 | bclr4 | bclr5
  | bclr6 | bclr7 =>
    exact (changeBit_makes ..).runs
  | brset0 | brset1 | brset2 | brset3 | brset4 | brset5 | brset6 | brset7 | brclr0 | brclr1 | brclr2 | brclr3
  | brclr4 | brclr5 | brclr6 | brclr7 =>
    exact (branchOnBit_makes ..).runs
  | cbeqDir | cbeqSp1 => exact (compareBranch_makes ..).runs
  | cbeqIx1p | cbeqIxp => exact (compareBranchBump_makes ..).runs
  | movDirDir => exact (moveMem_makes ..).runs
  | movImmDir => exact (moveByte_makes ..).runs
  | movDirIxp | movIxpDir => exact (moveMemBump_makes ..).runs
  | ldhxDir => exact (loadHxDir_makes ..).runs
  | cphxDir => exact (compareHxDir_makes ..).runs
  | sthxDir => exact (storeHxDir_makes ..).runs
  | psha | pshh | pshx => exact (pushReg_makes ..).runs
  | pula => exact (pullA_makes s).runs
  | pulh => exact (pullH_makes s).runs
  | pulx => exact (pullX_makes s).runs
  | bsr => exact (branchToSub_makes ..).runs
  | jsrDir | jsrExt | jsrIx2 | jsrIx1 | jsrIx => exact (jumpToSub_makes ..).runs
  | rts => exact (returnFromSub_makes s).runs
  | swi => exact (enterException_makes ..).runs
  | rti => exact (returnFromException_makes s).runs
  -- No access: immediate operands and registers, branches and jumps, and what works on registers and flags alone.
  | daa => exact (decimalAdjust_sameBus s).runs
  | div => exact (divide_sameBus s).runs
  | addImm | adcImm | subImm | sbcImm | cmpImm | cpxImm | bitImm | ldaImm | ldxImm | andImm | oraImm | eorImm
  | nega | negx | coma | comx | lsra | lsrx | rora | rorx | asra | asrx | lsla | lslx | rola | rolx | deca | decx
  | inca | incx | dbnza | dbnzx | clra | clrx | tsta | tstx | cbeqa | cbeqx =>
    exact SameBus.runs ⟨rfl, rfl, rfl⟩
  | bra | brn | bhi | bls | bcc | bcs | bne | beq | bhcc | bhcs | bpl | bmi | bmc | bms | bil | bih | bge | blt
  | bgt | ble | jmpDir | jmpExt | jmpIx2 | jmpIx1 | jmpIx =>
    exact SameBus.runs ⟨rfl, rfl, rfl⟩
  | mul | ldhxImm | cphxImm | clrh | nsa | tax | txa | tap | tpa | ais | aix | rsp | txs | tsx | nop | sec | clc | cli
  | sei | wait | stop =>
    exact SameBus.runs ⟨rfl, rfl, rfl⟩

/-- What is stored to is what an access of the list writes. -/
theorem mem_storedAddrs {i : Instr} {s : State} {a : Word} : a ∈ storedAddrs i s ↔ .write a ∈ accesses i s := by
  rw [storedAddrs, List.mem_filterMap]
  constructor
  · rintro ⟨x, hx, hstore⟩
    cases x with
    | read b => cases hstore
    | write b => cases hstore; exact hx
  · exact fun h => ⟨_, h, rfl⟩

end Sys2Proof.Machine

namespace Sys2Proof.Proofs

open Sys2Proof Sys2Proof.Machine

/-- Settles O46: every instruction makes the accesses of its list, up to the first forbidden one. -/
theorem completesIfAccessesAllowed : Obligations.CompletesIfAccessesAllowed := by
  intro i s
  split
  · next hallowed => exact (exec_runs i s).completes hallowed
  · next x hforbidden => exact (exec_runs i s).faults hforbidden

/-- Settles O47: the record of IO accesses grows by the accesses of the list that go to IO addresses. -/
theorem ioAccessesInOrder : Obligations.IoAccessesInOrder := fun i s _ h =>
  (Runs.performed (h ▸ exec_runs i s)).trace

/-- Settles O48: a byte that no access of the list writes is unchanged. -/
theorem memoryFrame : Obligations.MemoryFrame := by
  intro i s t h
  have hp : Performed (accesses i s) s t := Runs.performed (h ▸ exec_runs i s)
  refine ⟨fun b hb => hp.frame b (mt mem_storedAddrs.mpr hb), fun hnone => hp.mem fun a ha => ?_⟩
  have hmem := mem_storedAddrs.mpr ha
  simp [hnone] at hmem

end Sys2Proof.Proofs
end

section
/-! PROOF. The decoder and the encoder against each other and against the two-page map (spec/30_encoding.md R82, R83,
R99 to R103): every cell of the map holds an instruction whose bytes begin with the opcode of the cell, and the cells
that hold none are the unassigned opcodes. After it, the effective addresses of the modes as numbers (R87 to R95). -/

namespace Sys2Proof

/-! ### Every cell of the map holds the instruction encoded by its opcode -/

/-- What a row gives is encoded as this opcode followed by the row's operand bytes. -/
def Row.EncodedUnder (row : Row) (opcode : List Byte) : Prop :=
  match row with
  | .unassigned => True
  | .op0 i => encode i = opcode
  | .op1 f => ∀ b, encode (f b) = opcode ++ [b]
  | .op2 f => ∀ b b', encode (f b b') = opcode ++ [b, b']
  | .opw f => ∀ w, encode (f w) = opcode ++ [hiByte w, loByte w]

/-- Rows are encoded under consecutive opcodes of a page: `first` is the opcode byte of the first, `page` the prefix. -/
def RowsEncodedFrom (page : List Byte) (first : Byte) (rows : List Row) : Prop :=
  match rows with
  | [] => True
  | row :: rows => row.EncodedUnder (page ++ [first]) ∧ RowsEncodedFrom page (first + 1) rows

/-- The lists of a page are encoded under opcodes whose high nibbles are consecutive. -/
def PageEncodedFrom (page : List Byte) (first : Byte) (lists : List (List Row)) : Prop :=
  match lists with
  | [] => True
  | rows :: lists => RowsEncodedFrom page first rows ∧ PageEncodedFrom page (first + 16) lists

theorem RowsEncodedFrom.getD {page : List Byte} {first : Byte} {rows : List Row} (h : RowsEncodedFrom page first rows)
    (k : Nat) : (rows.getD k .unassigned).EncodedUnder (page ++ [first + BitVec.ofNat 8 k]) := by
  induction rows generalizing first k with
  | nil => trivial
  | cons row rows ih =>
    obtain ⟨hrow, hrows⟩ := h
    cases k with
    | zero => simpa using hrow
    | succ k =>
      have hbyte : first + BitVec.ofNat 8 (k + 1) = first + 1 + BitVec.ofNat 8 k := by
        rw [BitVec.ofNat_add, BitVec.add_comm (BitVec.ofNat 8 k), ← BitVec.add_assoc]
        rfl
      simpa [hbyte] using ih hrows k

theorem PageEncodedFrom.getD {page : List Byte} {first : Byte} {lists : List (List Row)}
    (h : PageEncodedFrom page first lists) (k : Nat) :
    RowsEncodedFrom page (first + BitVec.ofNat 8 (16 * k)) (lists.getD k []) := by
  induction lists generalizing first k with
  | nil => trivial
  | cons rows lists ih =>
    obtain ⟨hrows, hlists⟩ := h
    cases k with
    | zero => simpa using hrows
    | succ k =>
      have hbyte : first + BitVec.ofNat 8 (16 * (k + 1)) = first + 16 + BitVec.ofNat 8 (16 * k) := by
        rw [Nat.mul_succ, BitVec.ofNat_add, BitVec.add_comm (BitVec.ofNat 8 (16 * k)), ← BitVec.add_assoc]
        rfl
      simpa [hbyte] using ih hlists k

/-- The cell of a byte is the row at its low nibble in the list at its high nibble. -/
theorem PageEncodedFrom.cell {page : List Byte} {lists : List (List Row)} (h : PageEncodedFrom page 0 lists)
    (b : Byte) : (Opcodes.cell lists b).EncodedUnder (page ++ [b]) := by
  have hrow := (h.getD (b.toNat / 16)).getD (b.toNat % 16)
  have hbyte : 0 + BitVec.ofNat 8 (16 * (b.toNat / 16)) + BitVec.ofNat 8 (b.toNat % 16) = b := by
    calc 0 + BitVec.ofNat 8 (16 * (b.toNat / 16)) + BitVec.ofNat 8 (b.toNat % 16)
      _ = BitVec.ofNat 8 (16 * (b.toNat / 16) + b.toNat % 16) := by rw [BitVec.ofNat_add]; simp
      _ = b := by rw [Nat.div_add_mod, BitVec.ofNat_toNat, BitVec.setWidth_eq]
  rwa [hbyte] at hrow

open Opcodes in
/-- Page 1 of the map is the encoder's, cell by cell (R99): the equation of each cell is an arm of `encode`. -/
theorem page1_encoded : PageEncodedFrom [] 0 page1 := by
  simp only [PageEncodedFrom, RowsEncodedFrom, Row.EncodedUnder, page1, page1Row0, page1Row1, page1Row2, page1Row3,
    page1Row4, page1Row5, page1Row6, page1Row7, page1Row8, page1Row9, page1RowA, page1RowB, page1RowC, page1RowD,
    page1RowE, page1RowF]
  and_intros <;> intros <;> trivial

open Opcodes in
/-- Page 2 of the map is the encoder's behind the prefix, cell by cell (R82, R99). -/
theorem page2_encoded : PageEncodedFrom [0x9E] 0 page2 := by
  simp only [PageEncodedFrom, RowsEncodedFrom, Row.EncodedUnder, page2, page2Row6, page2RowD, page2RowE]
  and_intros <;> intros <;> trivial

/-! ### What decodes was encoded -/

/-- `n` of these bytes are the encoding of the instruction. -/
structure BeginsWithEncoding (bytes : List Byte) (i : Instr) (n : Nat) : Prop where
  length_le : n ≤ bytes.length
  take_eq : bytes.take n = encode i

theorem beginsWithEncoding_encode_append (i : Instr) (rest : List Byte) :
    BeginsWithEncoding (encode i ++ rest) i (encode i).length where
  length_le := by simp
  take_eq := List.take_left

/-- A row filled with operand bytes gives back the opcode and the operand bytes it used. -/
theorem Row.EncodedUnder.of_fill {row : Row} {opcode operands : List Byte} {i : Instr} {n : Nat}
    (h : row.EncodedUnder opcode) (hfill : row.fill opcode operands = .instr i n) :
    BeginsWithEncoding (opcode ++ operands) i n := by
  cases row with
  | unassigned => cases hfill
  | op0 j =>
    cases hfill
    have hj : encode i = opcode := h
    simpa [hj] using beginsWithEncoding_encode_append i operands
  | op1 f =>
    match operands, hfill with
    | b :: rest, rfl =>
      have hf : encode (f b) = opcode ++ [b] := h b
      simpa [hf] using beginsWithEncoding_encode_append (f b) rest
  | op2 f =>
    match operands, hfill with
    | b :: b' :: rest, rfl =>
      have hf : encode (f b b') = opcode ++ [b, b'] := h b b'
      simpa [hf] using beginsWithEncoding_encode_append (f b b') rest
  | opw f =>
    match operands, hfill with
    | b :: b' :: rest, rfl =>
      have hf : encode (f (joinBytes b b')) = opcode ++ [b, b'] := by simpa using h (joinBytes b b')
      simpa [hf] using beginsWithEncoding_encode_append (f (joinBytes b b')) rest

theorem beginsWithEncoding_of_decode {bytes : List Byte} {i : Instr} {n : Nat} (h : decode bytes = .instr i n) :
    BeginsWithEncoding bytes i n := by
  match bytes with
  | [] => cases h
  | b0 :: rest =>
    simp only [decode] at h
    split at h
    · next hprefix =>
      subst hprefix
      match rest with
      | [] => cases h
      | b1 :: rest => exact (page2_encoded.cell b1).of_fill h
    · exact (page1_encoded.cell b0).of_fill h

/-- No instruction is encoded as no bytes. -/
theorem length_encode_pos (i : Instr) : 0 < (encode i).length := by
  apply List.length_pos_of_ne_nil
  intro hnil
  have h := decode_encode i
  rw [hnil] at h
  cases h

/-! ### The unassigned opcodes -/

theorem Row.fill_eq_illegal_iff {row : Row} {opcode operands : List Byte} :
    row.fill opcode operands = .illegal opcode ↔ row = .unassigned := by
  unfold Row.fill
  split <;> simp

theorem decode_cons {b : Byte} (h : b ≠ 0x9E) (rest : List Byte) :
    decode (b :: rest) = (Opcodes.cell Opcodes.page1 b).fill [b] rest :=
  if_neg h

theorem decode_prefix_cons (b : Byte) (rest : List Byte) :
    decode (0x9E :: b :: rest) = (Opcodes.cell Opcodes.page2 b).fill [0x9E, b] rest :=
  rfl

/-- The row is assigned to no instruction. -/
def Row.isUnassigned (row : Row) : Bool :=
  match row with
  | .unassigned => true
  | .op0 _ => false
  | .op1 _ => false
  | .op2 _ => false
  | .opw _ => false

theorem Row.isUnassigned_iff {row : Row} : row.isUnassigned = true ↔ row = .unassigned := by
  cases row <;> simp [Row.isUnassigned]

/-- The empty cells of page 1 but for the prefix's own (R102). -/
theorem cell_page1_isUnassigned : ∀ b : Byte, b ≠ 0x9E → ((Opcodes.cell Opcodes.page1 b).isUnassigned = true ↔
    b ∈ ([0x32, 0x3E, 0x82, 0x8D, 0x96, 0xAC] : List Byte)) := by
  decide

/-- The empty cells of page 2 (R103). -/
theorem cell_page2_isUnassigned : ∀ b : Byte, ((Opcodes.cell Opcodes.page2 b).isUnassigned = true ↔
    b ∉ ([0x60, 0x61, 0x63, 0x64, 0x66, 0x67, 0x68, 0x69, 0x6A, 0x6B, 0x6C, 0x6D, 0x6F,
      0xD0, 0xD1, 0xD2, 0xD3, 0xD4, 0xD5, 0xD6, 0xD7, 0xD8, 0xD9, 0xDA, 0xDB, 0xDE, 0xDF,
      0xE0, 0xE1, 0xE2, 0xE3, 0xE4, 0xE5, 0xE6, 0xE7, 0xE8, 0xE9, 0xEA, 0xEB, 0xEE, 0xEF] : List Byte)) := by
  decide

/-- What the decoder reports as illegal is the opcode it looked up: the first byte, or the prefix and the byte after
it. -/
theorem opcode_of_decode_illegal {bytes opcode : List Byte} (h : decode bytes = .illegal opcode) :
    (∃ b rest, bytes = b :: rest ∧ opcode = [b] ∧ b ≠ 0x9E) ∨
      ∃ b rest, bytes = 0x9E :: b :: rest ∧ opcode = [0x9E, b] := by
  match bytes with
  | [] => cases h
  | b0 :: rest =>
    simp only [decode] at h
    split at h
    · next hprefix =>
      subst hprefix
      match rest with
      | [] => cases h
      | b1 :: rest => exact .inr ⟨b1, rest, rfl, Row.opcode_of_fill_illegal h⟩
    · next hpage1 => exact .inl ⟨b0, rest, rfl, Row.opcode_of_fill_illegal h, hpage1⟩

/-! ### The prefix -/

theorem encode_ofSrc_sp1 (op : SrcOp) (ff : Byte) :
    encode (.ofSrc op (.mem (.sp1 ff))) = 0x9E :: encode (.ofSrc op (.mem (.ix1 ff))) := by
  cases op <;> rfl

theorem encode_ofSrc_sp2 (op : SrcOp) (eeff : Word) :
    encode (.ofSrc op (.mem (.sp2 eeff))) = 0x9E :: encode (.ofSrc op (.mem (.ix2 eeff))) := by
  cases op <;> rfl

theorem cycles_ofSrc_sp1 (op : SrcOp) (ff : Byte) :
    (Instr.ofSrc op (.mem (.sp1 ff))).cycles = (Instr.ofSrc op (.mem (.ix1 ff))).cycles + 1 := by
  cases op <;> rfl

theorem cycles_ofSrc_sp2 (op : SrcOp) (eeff : Word) :
    (Instr.ofSrc op (.mem (.sp2 eeff))).cycles = (Instr.ofSrc op (.mem (.ix2 eeff))).cycles + 1 := by
  cases op <;> rfl

theorem encode_ofPlace_sp1 (op : PlaceOp) (ff : Byte) :
    encode (.ofPlace op (.sp1 ff)) = 0x9E :: encode (.ofPlace op (.ix1 ff)) := by
  cases op <;> rfl

theorem cycles_ofPlace_sp1 (op : PlaceOp) (ff : Byte) :
    (Instr.ofPlace op (.sp1 ff)).cycles = (Instr.ofPlace op (.ix1 ff)).cycles + 1 := by
  cases op <;> rfl

/-! ### Words as numbers -/

theorem toNat_zext16 (b : Byte) : (zext16 b).toNat = b.toNat :=
  BitVec.toNat_setWidth_of_le (by decide)

theorem toNat_joinBytes (hi lo : Byte) : (joinBytes hi lo).toNat = hi.toNat * 256 + lo.toNat := by
  unfold joinBytes
  rw [BitVec.toNat_append, ← Nat.shiftLeft_add_eq_or_of_lt lo.isLt, Nat.shiftLeft_eq]

theorem Machine.State.toNat_hx (s : Machine.State) : s.hx.toNat = s.h.toNat * 256 + s.x.toNat :=
  toNat_joinBytes s.h s.x

end Sys2Proof

namespace Sys2Proof.Proofs

open Sys2Proof Sys2Proof.Machine

/-- Settles O1: the row at an instruction's opcode is the instruction's own constructor. -/
theorem decodeOfEncode : Obligations.DecodeOfEncode := fun i rest _ =>
  decode_encode_append i rest

/-- Settles O2: every cell of the two pages is encoded by its own opcode. -/
theorem encodeOfDecode : Obligations.EncodeOfDecode := by
  intro bytes i n h
  obtain ⟨hlength, htake⟩ := beginsWithEncoding_of_decode h
  have hpos : 1 ≤ n := by
    calc 1 ≤ (encode i).length := length_encode_pos i
      _ ≤ n := htake ▸ List.length_take_le n bytes
  exact ⟨rfl, hpos, length_le_four_of_decode h, hlength, htake⟩

/-- Settles O3: an opcode is reported exactly where its cell is empty. -/
theorem unassignedOpcodes : Obligations.UnassignedOpcodes := by
  refine ⟨fun b0 rest => ?_, fun b1 rest => ?_, fun bytes opcode h => ?_⟩
  · by_cases hprefix : b0 = 0x9E
    · subst hprefix
      refine iff_of_false (fun h => ?_) (by decide)
      rcases opcode_of_decode_illegal h with ⟨b, _, hb, _, hne⟩ | ⟨b, _, _, hopcode⟩
      · exact hne (List.cons.inj hb).1.symm
      · cases hopcode
    · rw [decode_cons hprefix, Row.fill_eq_illegal_iff, ← Row.isUnassigned_iff]
      exact cell_page1_isUnassigned b0 hprefix
  · rw [decode_prefix_cons, Row.fill_eq_illegal_iff, ← Row.isUnassigned_iff]
    exact cell_page2_isUnassigned b1
  · rcases opcode_of_decode_illegal h with ⟨b, rest, rfl, rfl, -⟩ | ⟨b, rest, rfl, rfl⟩
    · exact ⟨by simp, by simp, .inl rfl⟩
    · exact ⟨by simp, by simp, .inr rfl⟩

/-- Settles O4, operation by operation. -/
theorem prefixForms : Obligations.PrefixForms :=
  ⟨fun op ff eeff =>
      ⟨encode_ofSrc_sp1 op ff, encode_ofSrc_sp2 op eeff, cycles_ofSrc_sp1 op ff, cycles_ofSrc_sp2 op eeff⟩,
    fun _ _ => ⟨rfl, rfl, rfl, rfl, rfl, rfl, rfl, rfl⟩,
    fun op ff => ⟨encode_ofPlace_sp1 op ff, cycles_ofPlace_sp1 op ff⟩,
    fun _ _ => ⟨rfl, rfl, rfl, rfl⟩⟩

/-- Settles O5: each word is the encoding of its instruction. -/
theorem sampleWords : Obligations.SampleWords :=
  ⟨decode_encode (.ldaImm 0x80), decode_encode (.ldaExt 0x1234), decode_encode (.movDirDir 0x10 0x11),
    decode_encode (.bset2 0x50), decode_encode (.addSp1 0x01), decode_encode .daa, decode_encode (.clrSp1 0x7F),
    decode_encode (.aix 0xFF), decode_encode (.rolIx1 0x02), decode_encode (.comIx1 0x02),
    decode_encode (.cphxImm 0x0F00), decode_encode (.brclr0 0x50 0x0A), decode_encode (.bhi 0x10),
    decode_encode (.cbeqIxp 0xFE), decode_encode (.dbnzSp1 0x02 0xFB), decode_encode (.jmpIx2 0x6E0B),
    decode_encode .swi⟩

/-- Settles O11: the modes add words modulo 2^16, and an 8-bit offset is its own number. -/
theorem effectiveAddresses : Obligations.EffectiveAddresses := by
  intro s b w
  refine ⟨toNat_zext16 b, rfl, s.toNat_hx, ?ix1, ?ix2, ?sp1, ?sp2⟩
  case ix1 | ix2 | sp1 | sp2 => simp only [eaOf, BitVec.toNat_add, toNat_zext16, State.toNat_hx]

end Sys2Proof.Proofs
end

section
/-! PROOF. How the rows of the families are encoded, by column and operand form (spec/30_encoding.md R101), and how many
cycles they take (spec/70_reset_and_hazards.md R362). -/

namespace Sys2Proof

/-! ### Columns -/

/-- The low digit of the opcode of an operation with a source operand: its column of the table (R101 (a)). -/
def SrcOp.column (op : SrcOp) : Byte :=
  match op with
  | .sub => 0x0
  | .cmp => 0x1
  | .sbc => 0x2
  | .cpx => 0x3
  | .and => 0x4
  | .bit => 0x5
  | .lda => 0x6
  | .eor => 0x8
  | .adc => 0x9
  | .ora => 0xA
  | .add => 0xB
  | .ldx => 0xE

/-- The low digit of the opcode of an operation on a place (R101 (b)). -/
def PlaceOp.column (op : PlaceOp) : Byte :=
  match op with
  | .neg => 0x0
  | .com => 0x3
  | .lsr => 0x4
  | .ror => 0x6
  | .asr => 0x7
  | .lsl => 0x8
  | .rol => 0x9
  | .dec => 0xA
  | .inc => 0xC
  | .tst => 0xD
  | .clr => 0xF

/-- The cycles of an operation on a place: TST and CLR make one access where the others make two (R362). -/
def PlaceOp.cycles (op : PlaceOp) (p : Place) : Nat :=
  match op with
  | .tst | .clr => Machine.testCycles p
  | _ => Machine.modifyCycles p

namespace Machine

/-! ### Rows -/

theorem encodedAs_of_encode {i : Instr} {bytes : List Byte} {n : Nat} (hbytes : encode i = bytes)
    (hcycles : i.cycles = n) : encodedAs i bytes n := by
  subst hbytes
  exact ⟨decode_encode i, hcycles⟩

theorem encodedAs_ofSrc (op : SrcOp) (o : Src) : encodedAs (.ofSrc op o) (srcBytes op.column o) (srcCycles o) := by
  cases o with
  | imm ii => cases op <;> exact encodedAs_of_encode rfl rfl
  | mem e => cases e <;> cases op <;> exact encodedAs_of_encode rfl rfl

theorem encodedAs_ofSta (e : Ea) : encodedAs (.ofSta e) (srcBytes 0x7 (.mem e)) (srcCycles (.mem e)) := by
  cases e <;> exact encodedAs_of_encode rfl rfl

theorem encodedAs_ofStx (e : Ea) : encodedAs (.ofStx e) (srcBytes 0xF (.mem e)) (srcCycles (.mem e)) := by
  cases e <;> exact encodedAs_of_encode rfl rfl

theorem encodedAs_ofPlace (op : PlaceOp) (p : Place) :
    encodedAs (.ofPlace op p) (placeBytesOf op.column p) (op.cycles p) := by
  cases p <;> cases op <;> exact encodedAs_of_encode rfl rfl

end Machine

end Sys2Proof
end

section
/-! PROOF. Data movement (spec/40_data_movement.md R120 to R137): what each operation leaves where its accesses are
allowed. -/

namespace Sys2Proof.Machine

/-! ### The flags of H:X -/

/-- The flags of a load or store of H:X from its two bytes: N is the top bit of the high byte, and the word is 0 where
both bytes are. -/
theorem Ccr.loaded16_joinBytes (f : Ccr) (hi lo : Byte) : f.loaded16 (joinBytes hi lo) =
    { f with v := false, n := hi.getLsbD 7, z := decide (hi = 0) && decide (lo = 0) } := by
  have hn : (joinBytes hi lo).getLsbD 15 = hi.getLsbD 7 := by
    unfold joinBytes
    rw [BitVec.getLsbD_append]
    rfl
  have hz : joinBytes hi lo = 0 ↔ hi = 0 ∧ lo = 0 := by
    constructor
    · intro h
      exact ⟨by rw [← hiByte_joinBytes hi lo, h]; rfl, by rw [← loByte_joinBytes hi lo, h]; rfl⟩
    · rintro ⟨rfl, rfl⟩
      rfl
  have hzero : (joinBytes hi lo == 0) = (decide (hi = 0) && decide (lo = 0)) :=
    (decide_eq_decide.mpr hz).trans (Bool.decide_and ..)
  simp only [Ccr.loaded16, Ccr.nz16, hn, hzero]

/-! ### What the operations leave -/

section Meanings

variable {s : State} {o : Src} {e : Ea} {p : Place} {v dd : Byte} {src dest : Word} {len : Nat}

theorem loadA_of_readable (h : srcReadable o s) : loadA o s =
    .ok { srcAfter o s with a := srcValue o s, ccr := s.ccr.loaded8 (srcValue o s), pc := s.npc (srcLen o) } := by
  simp only [loadA, loadSrc_of_readable h, ok_bind]

theorem loadX_of_readable (h : srcReadable o s) : loadX o s =
    .ok { srcAfter o s with x := srcValue o s, ccr := s.ccr.loaded8 (srcValue o s), pc := s.npc (srcLen o) } := by
  simp only [loadX, loadSrc_of_readable h, ok_bind]

theorem storeReg_of_writable (h : s.writable (eaOf e s)) :
    storeReg v e s = .ok { s.afterWrite (eaOf e s) v with ccr := s.ccr.loaded8 v, pc := s.npc (eaLen e) } := by
  simp only [storeReg, writeByte_of_writable h, ok_bind]

theorem clearPlace_of_writable (h : placeWritable p s) : clearPlace p s =
    .ok { placePut p 0 s with ccr := { s.ccr with v := false, n := false, z := true }, pc := s.npc (placeLen p) } := by
  simp only [clearPlace, storePlace_of_writable h, ok_bind]

/-- H is the byte at the lower address, which is read first (R53, D10). -/
theorem loadHxDir_of_readable (h : s.readable (zext16 dd)) (h' : s.readable (zext16 dd + 1)) :
    let s1 := s.afterRead (zext16 dd)
    let hi := s.readValue (zext16 dd)
    let lo := s1.readValue (zext16 dd + 1)
    loadHxDir dd s = .ok { s1.afterRead (zext16 dd + 1) with
      h := hi, x := lo, ccr := s.ccr.loaded16 (joinBytes hi lo), pc := s.npc 2 } := by
  simp only [loadHxDir, readWord_of_readable h h', ok_bind, hiByte_joinBytes, loByte_joinBytes]

/-- H goes to the lower address, which is written first. -/
theorem storeHxDir_of_writable (h : s.writable (zext16 dd)) (h' : s.writable (zext16 dd + 1)) :
    storeHxDir dd s = .ok { (s.afterWrite (zext16 dd) s.h).afterWrite (zext16 dd + 1) s.x with
      ccr := s.ccr.loaded16 s.hx, pc := s.npc 2 } := by
  simp only [storeHxDir, writeWord_of_writable h h', ok_bind, State.hx, hiByte_joinBytes, loByte_joinBytes]

theorem moveByte_of_writable (h : s.writable dest) :
    moveByte v dest len s = .ok { s.afterWrite dest v with ccr := s.ccr.loaded8 v, pc := s.npc len } := by
  simp only [moveByte, writeByte_of_writable h, ok_bind]

/-- The read before the write changes neither the flags, nor PC, nor what the destination is. -/
theorem moveMem_of_allowed (h : s.readable src) (h' : s.writable dest) : moveMem src dest len s =
    .ok { (s.afterRead src).afterWrite dest (s.readValue src) with
      ccr := s.ccr.loaded8 (s.readValue src), pc := s.npc len } := by
  simp only [moveMem, readByte_of_readable h, ok_bind]
  exact moveByte_of_writable (s := s.afterRead src) h'

/-- The move leaves H:X as it was, so what is incremented is the old H:X. -/
theorem moveMemBump_of_allowed (h : s.readable src) (h' : s.writable dest) : moveMemBump src dest len s =
    .ok { (s.afterRead src).afterWrite dest (s.readValue src) with
      h := hiByte (s.hx + 1), x := loByte (s.hx + 1), ccr := s.ccr.loaded8 (s.readValue src), pc := s.npc len } := by
  simp only [moveMemBump, moveMem_of_allowed h h', ok_bind]
  rfl

theorem pushReg_of_writable (h : s.writable s.sp) :
    pushReg v s = .ok { s.afterWrite s.sp v with sp := s.sp - 1, pc := s.npc 1 } := by
  simp only [pushReg, push8_of_writable h, ok_bind, State.pushed]

theorem pull8_of_readable (h : s.readable (s.sp + 1)) :
    pull8 s = .ok (s.readValue (s.sp + 1), { s.afterRead (s.sp + 1) with sp := s.sp + 1 }) :=
  pull8_eq_ok.mpr ⟨h, rfl⟩

theorem pullA_of_readable (h : s.readable (s.sp + 1)) : pullA s =
    .ok { s.afterRead (s.sp + 1) with a := s.readValue (s.sp + 1), sp := s.sp + 1, pc := s.npc 1 } := by
  simp only [pullA, pull8_of_readable h, ok_bind]

theorem pullH_of_readable (h : s.readable (s.sp + 1)) : pullH s =
    .ok { s.afterRead (s.sp + 1) with h := s.readValue (s.sp + 1), sp := s.sp + 1, pc := s.npc 1 } := by
  simp only [pullH, pull8_of_readable h, ok_bind]

theorem pullX_of_readable (h : s.readable (s.sp + 1)) : pullX s =
    .ok { s.afterRead (s.sp + 1) with x := s.readValue (s.sp + 1), sp := s.sp + 1, pc := s.npc 1 } := by
  simp only [pullX, pull8_of_readable h, ok_bind]

end Meanings

/-! ### The rows -/

theorem exec_ofSrc_lda (o : Src) (s : State) : exec (.ofSrc .lda o) s = finish (loadA o s) := by
  cases o with
  | imm ii => rfl
  | mem e => cases e <;> rfl

theorem exec_ofSrc_ldx (o : Src) (s : State) : exec (.ofSrc .ldx o) s = finish (loadX o s) := by
  cases o with
  | imm ii => rfl
  | mem e => cases e <;> rfl

theorem exec_ofSta (e : Ea) (s : State) : exec (.ofSta e) s = finish (storeReg s.a e s) := by
  cases e <;> rfl

theorem exec_ofStx (e : Ea) (s : State) : exec (.ofStx e) s = finish (storeReg s.x e s) := by
  cases e <;> rfl

theorem exec_ofPlace_clr (p : Place) (s : State) : exec (.ofPlace .clr p) s = finish (clearPlace p s) := by
  cases p <;> rfl

/-! ### NSA -/

/-- The two nibbles swapped are the byte shifted left by four together with the byte shifted right by four. -/
theorem nibbles_swapped (b : Byte) : b.extractLsb' 0 4 ++ b.extractLsb' 4 4 = (b <<< 4) ||| (b >>> 4) := by
  revert b
  decide

end Sys2Proof.Machine

namespace Sys2Proof.Proofs

open Sys2Proof Sys2Proof.Machine

/-- Settles O14: the operand is read, and the flags are those of the byte read. -/
theorem loadResult : Obligations.LoadResult :=
  ⟨fun o => ⟨encodedAs_ofSrc .lda o, encodedAs_ofSrc .ldx o⟩, fun o s h =>
    ⟨(exec_ofSrc_lda o s).trans (congrArg finish (loadA_of_readable h)),
      (exec_ofSrc_ldx o s).trans (congrArg finish (loadX_of_readable h))⟩⟩

/-- Settles O15: both are one store of a register's byte. -/
theorem storeResult : Obligations.StoreResult :=
  ⟨fun e => ⟨encodedAs_ofSta e, encodedAs_ofStx e⟩, fun e s h =>
    ⟨(exec_ofSta e s).trans (congrArg finish (storeReg_of_writable h)),
      (exec_ofStx e s).trans (congrArg finish (storeReg_of_writable h))⟩⟩

/-- Settles O16: the place is written with 0, and not read. -/
theorem clearResult : Obligations.ClearResult :=
  ⟨encodedAs_ofPlace .clr, encodedAs_of_encode rfl rfl, fun s =>
    ⟨fun p h => (exec_ofPlace_clr p s).trans (congrArg finish (clearPlace_of_writable h)), rfl⟩⟩

/-- Settles O17: TAX and TXA copy as they are written; NSA is the swap of the two nibbles. -/
theorem nsaTaxTxaResult : Obligations.NsaTaxTxaResult := by
  refine ⟨encodedAs_of_encode rfl rfl, encodedAs_of_encode rfl rfl, encodedAs_of_encode rfl rfl,
    fun s => ⟨?nsa, rfl, rfl⟩⟩
  rw [← nibbles_swapped]
  rfl

/-- Settles O18: the 16-bit value is H:X with H the byte at the lower address, and its flags are read off the two
bytes. -/
theorem ldhxSthxResult : Obligations.LdhxSthxResult := by
  refine ⟨fun _ => encodedAs_of_encode rfl rfl,
    fun _ => ⟨encodedAs_of_encode rfl rfl, encodedAs_of_encode rfl rfl⟩, fun s => ⟨?imm, ?load, ?store⟩⟩
  case imm =>
    intro jjkk
    simp only [← Ccr.loaded16_joinBytes, joinBytes_hiByte_loByte]
    rfl
  case load =>
    intro dd h h'
    simp only [← Ccr.loaded16_joinBytes]
    exact congrArg finish (loadHxDir_of_readable h h')
  case store =>
    intro dd h h'
    simp only [← Ccr.loaded16_joinBytes]
    exact congrArg finish (storeHxDir_of_writable h h')

/-- Settles O19: each mode is one move, and the X+ modes go on to increment H:X. -/
theorem movResult : Obligations.MovResult := by
  refine ⟨fun _ _ => ⟨encodedAs_of_encode rfl rfl, encodedAs_of_encode rfl rfl, encodedAs_of_encode rfl rfl,
    encodedAs_of_encode rfl rfl⟩, fun s b d => ⟨fun h h' => ?dirDir, fun h h' => ?dirIxp, fun h => ?immDir,
    fun h h' => ?ixpDir⟩⟩
  case dirDir => exact congrArg finish (moveMem_of_allowed h h')
  case dirIxp => exact congrArg finish (moveMemBump_of_allowed h h')
  case immDir => exact congrArg finish (moveByte_of_writable h)
  case ixpDir => exact congrArg finish (moveMemBump_of_allowed h h')

/-- Settles O20: the three are one push of a register's byte. -/
theorem pushResult : Obligations.PushResult :=
  ⟨encodedAs_of_encode rfl rfl, encodedAs_of_encode rfl rfl, encodedAs_of_encode rfl rfl, fun _ h =>
    ⟨congrArg finish (pushReg_of_writable h), congrArg finish (pushReg_of_writable h),
      congrArg finish (pushReg_of_writable h)⟩⟩

/-- Settles O21: the byte pulled goes to the one register. -/
theorem pullResult : Obligations.PullResult :=
  ⟨encodedAs_of_encode rfl rfl, encodedAs_of_encode rfl rfl, encodedAs_of_encode rfl rfl, fun _ h =>
    ⟨congrArg finish (pullA_of_readable h), congrArg finish (pullH_of_readable h),
      congrArg finish (pullX_of_readable h)⟩⟩

end Sys2Proof.Proofs
end

section
/-! PROOF. BSET n and BCLR n (spec/41_bit_oriented.md R150, R151): a read and a write back at the same address, with one
bit of the byte changed. -/

namespace Sys2Proof.Machine

/-! ### The bits of the byte written back -/

/-- The mask of bit `n` has bit `n` and no other (R98). -/
theorem getLsbD_bitMask (n k : Fin 8) : (bitMask n).getLsbD k = decide (k = n) := by
  have hbit : (bitMask n).getLsbD k = decide (n.val = k.val) := by
    rw [bitMask, ← BitVec.twoPow_eq, BitVec.getLsbD_twoPow, decide_eq_true n.isLt, Bool.true_and]
  rw [hbit, decide_eq_decide, Fin.ext_iff, eq_comm]

theorem getLsbD_or_bitMask (m : Byte) (n k : Fin 8) :
    (m ||| bitMask n).getLsbD k = (decide (k = n) || m.getLsbD k) := by
  rw [BitVec.getLsbD_or, getLsbD_bitMask, Bool.or_comm]

theorem getLsbD_and_not_bitMask (m : Byte) (n k : Fin 8) :
    (m &&& ~~~bitMask n).getLsbD k = (!decide (k = n) && m.getLsbD k) := by
  rw [BitVec.getLsbD_and, BitVec.getLsbD_not, getLsbD_bitMask, decide_eq_true k.isLt, Bool.true_and, Bool.and_comm]

/-! ### What the operation leaves -/

/-- An address that can be written can be read, and the read does not change what the address is, so the one condition
allows both accesses. -/
theorem changeBit_of_writable {f : Byte → Byte} {dd : Byte} {s : State} (h : s.writable (zext16 dd)) :
    changeBit f dd s = .ok { (s.afterRead (zext16 dd)).afterWrite (zext16 dd) (f (s.readValue (zext16 dd))) with
      pc := s.npc 2 } := by
  have hread : s.readable (zext16 dd) := placeReadable_of_writable (p := .dir dd) h
  have hwrite : (s.afterRead (zext16 dd)).writable (zext16 dd) := h
  simp only [changeBit, readByte_of_readable hread, writeByte_of_writable hwrite, ok_bind]

/-! ### The rows -/

theorem encodedAs_ofBset (n : Fin 8) (dd : Byte) :
    encodedAs (.ofBset n dd) [BitVec.ofNat 8 (0x10 + 2 * n), dd] 4 := by
  fin_cases n <;> exact encodedAs_of_encode rfl rfl

theorem encodedAs_ofBclr (n : Fin 8) (dd : Byte) :
    encodedAs (.ofBclr n dd) [BitVec.ofNat 8 (0x11 + 2 * n), dd] 4 := by
  fin_cases n <;> exact encodedAs_of_encode rfl rfl

theorem exec_ofBset (n : Fin 8) (dd : Byte) (s : State) : exec (.ofBset n dd) s = finish (setBit n dd s) := by
  fin_cases n <;> rfl

theorem exec_ofBclr (n : Fin 8) (dd : Byte) (s : State) : exec (.ofBclr n dd) s = finish (clearBit n dd s) := by
  fin_cases n <;> rfl

end Sys2Proof.Machine

namespace Sys2Proof.Proofs

open Sys2Proof Sys2Proof.Machine

/-- Settles O22: the byte written back is the byte read, or-ed with the mask of bit n or and-ed with its complement. -/
theorem bitSetClear : Obligations.BitSetClear := by
  refine ⟨fun n dd => ⟨encodedAs_ofBset n dd, encodedAs_ofBclr n dd⟩, fun n dd s h => ?_⟩
  let m := s.readValue (zext16 dd)
  refine ⟨m ||| bitMask n, m &&& ~~~bitMask n, ?set, ?clear, fun k => ?bits⟩
  case set => exact (exec_ofBset n dd s).trans (congrArg finish (changeBit_of_writable h))
  case clear => exact (exec_ofBclr n dd s).trans (congrArg finish (changeBit_of_writable h))
  case bits => exact ⟨getLsbD_or_bitMask m n k, getLsbD_and_not_bitMask m n k⟩

end Sys2Proof.Proofs
end

section
/-! PROOF. Additions and subtractions (spec/42_arithmetic_dyadic.md R160): both are the sum of two words and a carry in,
because a subtraction adds the complement of its operand, with the borrow inverted. The Boolean forms of the flags and
what they mean are facts about that sum, for words of every width. -/

namespace Sys2Proof.Machine

/-! ### The sum of two words and a carry -/

section Sum

variable {w : Nat} (x y : BitVec w) (c : Bool)

/-- `x + y + c`, what an adder forms. -/
def sumWithCarry : BitVec w := x + y + BitVec.ofNat w c.toNat

/-- The form of C and H in R160: two of the operand bits and the inverted result bit are set. -/
def carryForm (a m r : Bool) : Bool := a && m || m && !r || !r && a

/-- The carry out of the top bit is what the sum loses by wrapping. -/
theorem toNat_sumWithCarry : (sumWithCarry x y c).toNat + (if BitVec.carry w x y c then 2 ^ w else 0) =
    x.toNat + y.toNat + c.toNat := by
  have hx := x.isLt
  have hy := y.isLt
  have hc := c.toNat_le
  have hr : (sumWithCarry x y c).toNat = (x.toNat + y.toNat + c.toNat) % 2 ^ w := by simp [sumWithCarry, Nat.add_mod]
  simp only [hr, BitVec.carry, Nat.mod_eq_of_lt hx, Nat.mod_eq_of_lt hy, ge_iff_le, decide_eq_true_eq]
  split
  · next h => rw [Nat.mod_eq_sub_mod h, Nat.mod_eq_of_lt (by omega), Nat.sub_add_cancel h]
  · next h => rw [Nat.mod_eq_of_lt (Nat.lt_of_not_le h), Nat.add_zero]

theorem carry_eq_false_iff :
    BitVec.carry w x y c = false ↔ (sumWithCarry x y c).toNat = x.toNat + y.toNat + c.toNat := by
  rw [← toNat_sumWithCarry]
  cases BitVec.carry w x y c <;> simp

/-- The carry out of bit `i`, read off the operand bits and the result bit. -/
theorem carry_succ_eq_carryForm {i : Nat} (hi : i < w) : BitVec.carry (i + 1) x y c =
    carryForm (x.getLsbD i) (y.getLsbD i) ((sumWithCarry x y c).getLsbD i) := by
  have hbool : BitVec.ofNat w c.toNat = (BitVec.ofBool c).setWidth w := BitVec.eq_of_toNat_eq (by simp)
  rw [sumWithCarry, hbool, BitVec.getLsbD_add_add_bool hi, BitVec.carry_succ]
  generalize x.getLsbD i = a, y.getLsbD i = m, BitVec.carry i x y c = k
  revert a m k
  decide

/-- There is no signed overflow exactly if the operands' signs differ or the sum has their sign. -/
theorem sum_overflow_eq_false_iff (hw : 0 < w) :
    ((x.msb == y.msb) && ((sumWithCarry x y c).msb != x.msb)) = false ↔
      (sumWithCarry x y c).toInt = x.toInt + y.toInt + c.toNat := by
  have hsum := toNat_sumWithCarry x y c
  have htop : 2 ^ w = 2 * 2 ^ (w - 1) := by rw [← pow_succ', Nat.sub_add_cancel hw]
  have hx := x.isLt
  have hy := y.isLt
  have hc := c.toNat_le
  have hr := (sumWithCarry x y c).isLt
  simp only [Bool.eq_false_iff, ne_eq, Bool.and_eq_true, beq_iff_eq, bne_iff_ne, BitVec.msb_eq_decide, decide_eq_decide,
    BitVec.toInt_eq_toNat_cond, htop] at *
  generalize 2 ^ (w - 1) = half at *
  push_cast
  split at hsum <;> omega

end Sum

/-! ### The difference of two words and a borrow -/

section Difference

variable {w : Nat} (x y : BitVec w) (b : Bool)

/-- `x - y - b`. -/
def differenceWithBorrow : BitVec w := x - y - BitVec.ofNat w b.toNat

theorem differenceWithBorrow_eq_sum : differenceWithBorrow x y b = sumWithCarry x (~~~y) (!b) := by
  rw [differenceWithBorrow, sumWithCarry, BitVec.not_eq_neg_add]
  cases b <;> simp [BitVec.sub_eq_add_neg, BitVec.add_assoc]

/-- The sum with the complement carries out exactly if the difference does not borrow. -/
theorem carry_compl : BitVec.carry w x (~~~y) (!b) = !decide (x.toNat < y.toNat + b.toNat) := by
  have hy := y.isLt
  have hcarry : 2 ^ w ≤ x.toNat + (2 ^ w - 1 - y.toNat) + (!b).toNat ↔ ¬ x.toNat < y.toNat + b.toNat := by
    cases b <;> simp only [Bool.not_true, Bool.not_false, Bool.toNat_true, Bool.toNat_false] <;> omega
  rw [BitVec.carry, Nat.mod_eq_of_lt x.isLt, Nat.mod_eq_of_lt (~~~y).isLt, BitVec.toNat_not, ← decide_not]
  exact decide_eq_decide.mpr hcarry

/-- The borrow is what the difference gains by wrapping. -/
theorem toNat_differenceWithBorrow : (differenceWithBorrow x y b).toNat + y.toNat + b.toNat =
    x.toNat + if x.toNat < y.toNat + b.toNat then 2 ^ w else 0 := by
  have hsum := toNat_sumWithCarry x (~~~y) (!b)
  have hy := y.isLt
  rw [carry_compl, ← differenceWithBorrow_eq_sum, BitVec.toNat_not] at hsum
  have hb : b.toNat + (!b).toNat = 1 := by cases b <;> rfl
  generalize 2 ^ w = top at *
  by_cases h : x.toNat < y.toNat + b.toNat <;> simp [h] at hsum ⊢ <;> omega

theorem borrow_eq_false_iff : decide (x.toNat < y.toNat + b.toNat) = false ↔
    ((differenceWithBorrow x y b).toNat : Int) = x.toNat - y.toNat - b.toNat := by
  have hdiff := toNat_differenceWithBorrow x y b
  rw [decide_eq_false_iff_not]
  split at hdiff <;> omega

/-- The borrow out of the top bit, read off the operand bits and the result bit: the form of C in R160. -/
theorem borrow_eq_form {i : Nat} (hi : i + 1 = w) : decide (x.toNat < y.toNat + b.toNat) =
    (!x.getLsbD i && y.getLsbD i || y.getLsbD i && (differenceWithBorrow x y b).getLsbD i ||
      (differenceWithBorrow x y b).getLsbD i && !x.getLsbD i) := by
  have hlt : i < w := hi ▸ i.lt_succ_self
  have hcarry := carry_succ_eq_carryForm x (~~~y) (!b) hlt
  rw [hi, carry_compl, ← differenceWithBorrow_eq_sum, BitVec.getLsbD_not, decide_eq_true hlt, Bool.true_and] at hcarry
  rw [Bool.not_eq_eq_eq_not.mp hcarry]
  generalize x.getLsbD i = a, y.getLsbD i = m, (differenceWithBorrow x y b).getLsbD i = r
  revert a m r
  decide

/-- `~~~y` is `-y - 1`. -/
theorem toInt_compl (hw : 0 < w) : (~~~y).toInt = -y.toInt - 1 := by
  have htop : 2 ^ w = 2 * 2 ^ (w - 1) := by rw [← pow_succ', Nat.sub_add_cancel hw]
  have hy := y.isLt
  simp only [BitVec.toInt_eq_toNat_cond, BitVec.toNat_not, htop] at *
  generalize 2 ^ (w - 1) = half at *
  push_cast
  omega

/-- The difference overflows exactly if the sum with the complement does, whose operand has the opposite sign. -/
theorem difference_overflow_eq_false_iff (hw : 0 < w) :
    ((x.msb != y.msb) && ((differenceWithBorrow x y b).msb != x.msb)) = false ↔
      (differenceWithBorrow x y b).toInt = x.toInt - y.toInt - b.toNat := by
  have hsign : (x.msb == (~~~y).msb) = (x.msb != y.msb) := by
    rw [BitVec.msb_not, decide_eq_true hw]
    cases x.msb <;> cases y.msb <;> rfl
  have hvalue : x.toInt + (~~~y).toInt + (!b).toNat = x.toInt - y.toInt - b.toNat := by
    have hb : b.toNat + (!b).toNat = 1 := by cases b <;> rfl
    rw [toInt_compl y hw]
    omega
  rw [← hsign, ← hvalue, differenceWithBorrow_eq_sum]
  exact sum_overflow_eq_false_iff x (~~~y) (!b) hw

end Difference

/-! ### The operations of the model -/

section Operations

variable (f : Ccr) (a m : Byte) (p q : Word) (c : Bool)

theorem bitNat_eq_toNat : bitNat c = c.toNat := by cases c <;> rfl

theorem add8_eq_sumWithCarry : add8 a m c = sumWithCarry a m c := by
  simp [add8, sumWithCarry, bitNat_eq_toNat, BitVec.ofNat_add]

theorem ofInt_toNat_sub {w : Nat} (x y : BitVec w) (n : Nat) :
    BitVec.ofInt w (x.toNat - y.toNat - n) = x - y - BitVec.ofNat w n := by
  change ((x.toNat - y.toNat - n : Int) : BitVec w) = _
  push_cast
  simp

theorem sub8_eq_differenceWithBorrow : sub8 a m c = differenceWithBorrow a m c := by
  rw [sub8, ofInt_toNat_sub, bitNat_eq_toNat, differenceWithBorrow]

theorem sub16_eq_differenceWithBorrow : sub16 p q = differenceWithBorrow p q false := by
  rw [sub16, ← Int.sub_zero (_ - _)]
  exact ofInt_toNat_sub p q 0

theorem added8_c : (f.added8 a m c).c = BitVec.carry 8 a m c := by
  rw [BitVec.carry, Nat.mod_eq_of_lt a.isLt, Nat.mod_eq_of_lt m.isLt, ← bitNat_eq_toNat]
  rfl

theorem added8_hf : (f.added8 a m c).hf = BitVec.carry 4 a m c := by
  rw [BitVec.carry, ← bitNat_eq_toNat]
  rfl

theorem subbed8_c : (f.subbed8 a m c).c = decide (a.toNat < m.toNat + c.toNat) := by
  rw [← bitNat_eq_toNat]
  rfl

/-! ### The flags of a sum -/

/-- The form of V in R160 for a sum: two operands of one sign have a sum of the other. -/
theorem added8_v_eq_form : (f.added8 a m c).v =
    (a.getLsbD 7 && m.getLsbD 7 && !(add8 a m c).getLsbD 7 ||
      !a.getLsbD 7 && !m.getLsbD 7 && (add8 a m c).getLsbD 7) := by
  simp only [Ccr.added8]
  generalize a.getLsbD 7 = i, m.getLsbD 7 = j, (add8 a m c).getLsbD 7 = k
  revert i j k
  decide

theorem added8_v_eq_false_iff :
    (f.added8 a m c).v = false ↔ (add8 a m c).toInt = a.toInt + m.toInt + bitNat c := by
  rw [bitNat_eq_toNat, add8_eq_sumWithCarry, ← sum_overflow_eq_false_iff a m c (by decide), ← add8_eq_sumWithCarry]
  rfl

theorem added8_c_eq_false_iff :
    (f.added8 a m c).c = false ↔ (add8 a m c).toNat = a.toNat + m.toNat + bitNat c := by
  rw [added8_c, bitNat_eq_toNat, add8_eq_sumWithCarry, carry_eq_false_iff]

/-! ### The flags of a difference -/

/-- The form of V in R160 for a difference: two operands of different signs have a difference of the second's sign. -/
theorem subbed8_v_eq_form : (f.subbed8 a m c).v =
    (a.getLsbD 7 && !m.getLsbD 7 && !(sub8 a m c).getLsbD 7 ||
      !a.getLsbD 7 && m.getLsbD 7 && (sub8 a m c).getLsbD 7) := by
  simp only [Ccr.subbed8]
  generalize a.getLsbD 7 = i, m.getLsbD 7 = j, (sub8 a m c).getLsbD 7 = k
  revert i j k
  decide

theorem subbed8_v_eq_false_iff :
    (f.subbed8 a m c).v = false ↔ (sub8 a m c).toInt = a.toInt - m.toInt - bitNat c := by
  rw [bitNat_eq_toNat, sub8_eq_differenceWithBorrow, ← difference_overflow_eq_false_iff a m c (by decide),
    ← sub8_eq_differenceWithBorrow]
  rfl

theorem subbed8_c_eq_false_iff :
    (f.subbed8 a m c).c = false ↔ ((sub8 a m c).toNat : Int) = a.toNat - m.toNat - bitNat c := by
  rw [subbed8_c, bitNat_eq_toNat, sub8_eq_differenceWithBorrow, borrow_eq_false_iff]

theorem subbed16_v_eq_false_iff : (f.subbed16 p q).v = false ↔ (sub16 p q).toInt = p.toInt - q.toInt := by
  have hv := difference_overflow_eq_false_iff p q false (by decide)
  rw [← sub16_eq_differenceWithBorrow, Bool.toNat_false, Int.natCast_zero, Int.sub_zero] at hv
  exact hv

theorem subbed16_c_eq_false_iff : (f.subbed16 p q).c = false ↔ ((sub16 p q).toNat : Int) = p.toNat - q.toNat := by
  have hc := borrow_eq_false_iff p q false
  rw [← sub16_eq_differenceWithBorrow, Bool.toNat_false, Int.natCast_zero, Int.sub_zero] at hc
  exact hc

end Operations

end Sys2Proof.Machine

namespace Sys2Proof.Proofs

open Sys2Proof Sys2Proof.Machine

/-- Settles O13: C and H are the carries out of bits 7 and 3 of a sum, or the borrow of a difference, and V is the signed
overflow; N, Z and the flags that are kept stand in the model's definitions. -/
theorem arithmeticFlags : Obligations.ArithmeticFlags := by
  refine ⟨fun f a m cin => ?sum, fun f a m bin => ?difference, fun f a m => ?word⟩
  case sum =>
    refine ⟨added8_v_eq_form f a m cin, ?halfCarry, ?carry, rfl, rfl, rfl, added8_v_eq_false_iff f a m cin,
      added8_c_eq_false_iff f a m cin⟩
    case halfCarry =>
      rw [added8_hf, add8_eq_sumWithCarry]
      exact carry_succ_eq_carryForm a m cin (by decide)
    case carry =>
      rw [added8_c, add8_eq_sumWithCarry]
      exact carry_succ_eq_carryForm a m cin (by decide)
  case difference =>
    refine ⟨subbed8_v_eq_form f a m bin, ?borrow, rfl, rfl, rfl, rfl, subbed8_v_eq_false_iff f a m bin,
      subbed8_c_eq_false_iff f a m bin⟩
    case borrow =>
      rw [subbed8_c, sub8_eq_differenceWithBorrow]
      exact borrow_eq_form a m bin rfl
  case word =>
    exact ⟨rfl, rfl, rfl, rfl, subbed16_v_eq_false_iff f a m, subbed16_c_eq_false_iff f a m⟩

end Sys2Proof.Proofs
end

section
/-! PROOF. ADD, ADC, SUB, SBC, DAA, MUL and DIV (spec/42_arithmetic_dyadic.md R161 to R167): what each leaves where its
accesses are allowed, and the decimal addition that ADD or ADC and DAA make together. -/

namespace Sys2Proof.Machine

/-! ### ADD, ADC, SUB and SBC -/

section Meanings

variable {s t : State} {o : Src} {c : Bool}

theorem addA_eq_ok : addA c o s = .ok t ↔ srcReadable o s ∧ t = { srcAfter o s with
    a := add8 s.a (srcValue o s) c, ccr := s.ccr.added8 s.a (srcValue o s) c, pc := s.npc (srcLen o) } := by
  simp only [addA, bind_eq_ok, loadSrc_eq_ok]
  constructor
  · rintro ⟨-, ⟨h, rfl⟩, ⟨⟩⟩
    exact ⟨h, rfl⟩
  · rintro ⟨h, rfl⟩
    exact ⟨_, ⟨h, rfl⟩, rfl⟩

theorem subA_of_readable (h : srcReadable o s) : subA c o s = .ok { srcAfter o s with
    a := sub8 s.a (srcValue o s) c, ccr := s.ccr.subbed8 s.a (srcValue o s) c, pc := s.npc (srcLen o) } := by
  simp only [subA, loadSrc_of_readable h, ok_bind]

end Meanings

theorem exec_ofSrc_add (o : Src) (s : State) : exec (.ofSrc .add o) s = finish (addA false o s) := by
  cases o with
  | imm ii => rfl
  | mem e => cases e <;> rfl

theorem exec_ofSrc_adc (o : Src) (s : State) : exec (.ofSrc .adc o) s = finish (addA s.ccr.c o s) := by
  cases o with
  | imm ii => rfl
  | mem e => cases e <;> rfl

theorem exec_ofSrc_sub (o : Src) (s : State) : exec (.ofSrc .sub o) s = finish (subA false o s) := by
  cases o with
  | imm ii => rfl
  | mem e => cases e <;> rfl

theorem exec_ofSrc_sbc (o : Src) (s : State) : exec (.ofSrc .sbc o) s = finish (subA s.ccr.c o s) := by
  cases o with
  | imm ii => rfl
  | mem e => cases e <;> rfl

/-- The difference with the borrow as a byte. -/
theorem sub8_eq_sub (a m : Byte) (b : Bool) : sub8 a m b = a - m - if b then 1 else 0 := by
  rw [sub8_eq_differenceWithBorrow]
  cases b <;> rfl

/-- All six flags of an addition. -/
theorem Ccr.added8_eq (f : Ccr) (a m : Byte) (c : Bool) : f.added8 a m c =
    { v := decide (a.getLsbD 7 = m.getLsbD 7) && decide ((add8 a m c).getLsbD 7 ≠ a.getLsbD 7)
      hf := decide (a.toNat % 16 + m.toNat % 16 + bitNat c ≥ 16)
      i := f.i
      n := (add8 a m c).getLsbD 7
      z := decide (add8 a m c = 0)
      c := decide (a.toNat + m.toNat + bitNat c ≥ 256) } := by
  rw [decide_not]
  rfl

/-- All six flags of a subtraction, which keeps the half carry. -/
theorem Ccr.subbed8_eq (f : Ccr) (a m : Byte) (b : Bool) : f.subbed8 a m b =
    { v := decide (a.getLsbD 7 ≠ m.getLsbD 7) && decide ((sub8 a m b).getLsbD 7 ≠ a.getLsbD 7)
      hf := f.hf
      i := f.i
      n := (sub8 a m b).getLsbD 7
      z := decide (sub8 a m b = 0)
      c := decide (m.toNat + bitNat b > a.toNat) } := by
  rw [decide_not, decide_not]
  rfl

/-! ### DAA -/

theorem DaaRow.fits_iff {r : DaaRow} {c hf : Bool} {a : Byte} : r.fits c hf a = true ↔
    r.c = c ∧ r.hf = hf ∧ r.hiFrom ≤ a.toNat / 16 ∧ a.toNat / 16 ≤ r.hiTo ∧ r.loFrom ≤ a.toNat % 16 ∧
      a.toNat % 16 ≤ r.loTo := by
  simp [DaaRow.fits, and_assoc]

/-- No input fits both rows: a flag differs, or the ranges of a nibble do not meet. -/
def DaaRow.apart (r r' : DaaRow) : Bool :=
  r.c != r'.c || r.hf != r'.hf || decide (r.hiTo < r'.hiFrom) || decide (r'.hiTo < r.hiFrom) ||
    decide (r.loTo < r'.loFrom) || decide (r'.loTo < r.loFrom)

theorem daaTable_apart : daaTable.Pairwise (fun r r' => r.apart r' = true) := by decide

theorem DaaRow.not_fits_of_apart {r r' : DaaRow} {c hf : Bool} {a : Byte} (hapart : r.apart r' = true)
    (hfits : r'.fits c hf a = true) : r.fits c hf a = false := by
  rw [Bool.eq_false_iff, ne_eq, DaaRow.fits_iff]
  rw [DaaRow.fits_iff] at hfits
  simp only [DaaRow.apart, Bool.or_eq_true, bne_iff_ne, decide_eq_true_eq] at hapart
  grind

/-- The row that fits is the row that DAA finds, because no other fits. -/
theorem daaRow_eq_some_of_fits {r : DaaRow} {c hf : Bool} {a : Byte} (hmem : r ∈ daaTable)
    (hfits : r.fits c hf a = true) : daaRow c hf a = some r := by
  obtain ⟨before, after, htable⟩ := List.append_of_mem hmem
  have hapart := daaTable_apart
  rw [htable, List.pairwise_append] at hapart
  obtain ⟨-, -, hcross⟩ := hapart
  rw [daaRow, List.find?_eq_some_iff_append]
  refine ⟨hfits, before, after, htable, fun r' hr' => ?_⟩
  rw [DaaRow.not_fits_of_apart (hcross r' hr' r List.mem_cons_self) hfits]
  rfl

theorem decimalAdjust_of_row {s : State} {r : DaaRow} (h : daaRow s.ccr.c s.ccr.hf s.a = some r) :
    decimalAdjust s = { s with
      a := s.a + r.correction
      ccr := { s.ccr.nz8 (s.a + r.correction) with c := r.corrected, v := Config.anyBit s.draws }
      draws := s.draws + 1
      pc := s.npc 1 } := by
  rw [decimalAdjust, h]

theorem decimalAdjust_of_no_row {s : State} (h : daaRow s.ccr.c s.ccr.hf s.a = none) :
    decimalAdjust s = { s with
      a := Config.anyByte s.draws
      ccr := { s.ccr.nz8 (Config.anyByte s.draws) with
        c := Config.anyBit (s.draws + 1), v := Config.anyBit (s.draws + 2) }
      draws := s.draws + 3
      pc := s.npc 1 } := by
  rw [decimalAdjust, h]

/-- A row written as a tuple, in the order of the fields. -/
def DaaRow.ofTuple (r : Bool × Nat × Nat × Bool × Nat × Nat × Byte × Bool) : DaaRow :=
  match r with
  | (c, hiFrom, hiTo, hf, loFrom, loTo, correction, corrected) =>
    ⟨c, hiFrom, hiTo, hf, loFrom, loTo, correction, corrected⟩

/-! ### MUL and DIV -/

/-- The product of two bytes fits in a word. -/
theorem toNat_product (x a : Byte) : (BitVec.ofNat 16 (x.toNat * a.toNat)).toNat = x.toNat * a.toNat := by
  have hprod : x.toNat * a.toNat < 256 * 256 := Nat.mul_lt_mul'' x.isLt a.isLt
  rw [BitVec.toNat_ofNat, Nat.mod_eq_of_lt hprod]

theorem toNat_ofNat_byte {n : Nat} (h : n ≤ 255) : (BitVec.ofNat 8 n).toNat = n := by
  rw [BitVec.toNat_ofNat, Nat.mod_eq_of_lt (Nat.lt_succ_of_le h)]

/-- The quotient is over `$FF` exactly if the high byte is at or above the divisor. -/
theorem quotient_gt_iff {h a x : Nat} (ha : a < 256) (hx : x ≠ 0) : 255 < (h * 256 + a) / x ↔ x ≤ h := by
  rw [← Nat.succ_le_iff, Nat.le_div_iff_mul_le (Nat.pos_of_ne_zero hx)]
  omega

/-- Quotient and remainder, which fit in their bytes, because the remainder is below the divisor. -/
theorem divide_of_lt {s : State} (h : s.h.toNat < s.x.toNat) : ∃ q r : Byte,
    q.toNat = (s.h.toNat * 256 + s.a.toNat) / s.x.toNat ∧ r.toNat = (s.h.toNat * 256 + s.a.toNat) % s.x.toNat ∧
      divide s = { s with a := q, h := r, ccr := { s.ccr with z := decide (q = 0), c := false }, pc := s.npc 1 } := by
  have hx : s.x.toNat ≠ 0 := Nat.ne_zero_of_lt h
  have hfits : ¬ 255 < (s.h.toNat * 256 + s.a.toNat) / s.x.toNat := by
    rw [quotient_gt_iff s.a.isLt hx]
    exact h.not_ge
  have hq := toNat_ofNat_byte (Nat.le_of_not_lt hfits)
  have hr := toNat_ofNat_byte (Nat.le_of_lt_succ
    ((Nat.mod_lt (s.h.toNat * 256 + s.a.toNat) (Nat.pos_of_ne_zero hx)).trans s.x.isLt))
  refine ⟨_, _, hq, hr, (if_neg (not_or.mpr ⟨hx, hfits⟩)).trans ?_⟩
  simp only [← BitVec.toNat_inj, hq]
  rfl

theorem divide_of_le {s : State} (h : s.x.toNat ≤ s.h.toNat) :
    divide s = { s with
      a := Config.anyByte s.draws
      h := Config.anyByte (s.draws + 1)
      ccr := { s.ccr with c := true, z := Config.anyBit (s.draws + 2) }
      draws := s.draws + 3
      pc := s.npc 1 } := by
  refine if_pos ?_
  by_cases hx : s.x.toNat = 0
  · exact .inl hx
  · exact .inr ((quotient_gt_iff s.a.isLt hx).mpr h)

/-! ### Decimal addition -/

/-- A number below 100 as two decimal digits, one to a nibble. -/
def bcd (n : Nat) : Byte := BitVec.ofNat 8 (n / 10 * 16 + n % 10)

theorem toNat_bcd {n : Nat} (h : n < 100) : (bcd n).toNat = n / 10 * 16 + n % 10 := by
  rw [bcd, BitVec.toNat_ofNat, Nat.mod_eq_of_lt (by omega)]

/-- Where two pairs of decimal digits add up to `tens` and `units`, the carry in counted in `units`, a row of Table 5-2
fits the byte sum and its carries, and corrects it to the decimal sum. -/
theorem daaRow_of_digit_sums : ∀ (tens : Fin 19) (units : Fin 20),
    (daaRow (decide (256 ≤ 16 * tens.val + units)) (decide (16 ≤ units.val)) (BitVec.ofNat 8 (16 * tens + units))).map
      (fun r => (BitVec.ofNat 8 (16 * tens + units) + r.correction, r.corrected)) =
        some (bcd ((10 * tens + units) % 100), decide (100 ≤ 10 * tens.val + units)) := by
  decide

/-- The tens and the units of two decimal numbers add up apart from one another, each in its nibble: the carry out of
the lower nibble says that the units are 16 or more. -/
theorem daaRow_of_bcd_sum {x y : Nat} (hx : x < 100) (hy : y < 100) (f : Ccr) (c : Bool) :
    let flags := f.added8 (bcd x) (bcd y) c
    let sum := add8 (bcd x) (bcd y) c
    ∃ r, daaRow flags.c flags.hf sum = some r ∧ sum + r.correction = bcd ((x + y + bitNat c) % 100) ∧
      r.corrected = decide (100 ≤ x + y + bitNat c) := by
  have hc : bitNat c ≤ 1 := bitNat_eq_toNat c ▸ c.toNat_le
  obtain ⟨tens, htens⟩ : ∃ n : Fin 19, n.val = x / 10 + y / 10 := ⟨⟨x / 10 + y / 10, by omega⟩, rfl⟩
  obtain ⟨units, hunits⟩ : ∃ n : Fin 20, n.val = x % 10 + y % 10 + bitNat c :=
    ⟨⟨x % 10 + y % 10 + bitNat c, by omega⟩, rfl⟩
  have hsum : (bcd x).toNat + (bcd y).toNat + bitNat c = 16 * tens + units := by
    rw [toNat_bcd hx, toNat_bcd hy]
    omega
  have hnibble : (bcd x).toNat % 16 + (bcd y).toNat % 16 + bitNat c = units := by
    rw [toNat_bcd hx, toNat_bcd hy]
    omega
  have hdecimal : x + y + bitNat c = 10 * tens + units := by omega
  obtain ⟨r, hrow, hr⟩ := Option.map_eq_some_iff.mp (daaRow_of_digit_sums tens units)
  obtain ⟨hvalue, hcarry⟩ := Prod.mk.inj hr
  simp only [Ccr.added8_eq, add8, hsum, hnibble, hdecimal]
  exact ⟨r, hrow, hvalue, hcarry⟩

/-- DAA after ADD or ADC of two decimal numbers. -/
theorem decimalAdjust_of_addA {x y : Nat} {o : Src} {s t : State} {c : Bool} (hx : x < 100) (hy : y < 100)
    (hs : s.a = bcd x) (hm : srcValue o s = bcd y) (h : addA c o s = .ok t) :
    (decimalAdjust t).a = bcd ((x + y + bitNat c) % 100) ∧
      (decimalAdjust t).ccr.c = decide (100 ≤ x + y + bitNat c) := by
  obtain ⟨r, hrow, hvalue, hcarry⟩ := daaRow_of_bcd_sum hx hy s.ccr c
  obtain ⟨ha, hccr⟩ : t.a = add8 (bcd x) (bcd y) c ∧ t.ccr = s.ccr.added8 (bcd x) (bcd y) c := by
    obtain ⟨-, rfl⟩ := addA_eq_ok.mp h
    rw [hs, hm]
    exact ⟨rfl, rfl⟩
  rw [← ha, ← hccr] at hrow
  rw [decimalAdjust_of_row hrow, ← hvalue, ← hcarry, ← ha]
  exact ⟨rfl, rfl⟩

end Sys2Proof.Machine

namespace Sys2Proof.Proofs

open Sys2Proof Sys2Proof.Machine

/-- Settles O23: the carry in is 0 for ADD and the C flag for ADC. -/
theorem addResult : Obligations.AddResult := by
  refine ⟨fun o => ⟨encodedAs_ofSrc .add o, encodedAs_ofSrc .adc o⟩, fun o s h => ?_⟩
  rw [exec_ofSrc_add, exec_ofSrc_adc, addA_eq_ok.mpr ⟨h, rfl⟩, addA_eq_ok.mpr ⟨h, rfl⟩, Ccr.added8_eq, Ccr.added8_eq]
  exact ⟨rfl, rfl⟩

/-- Settles O24: the borrow in is 0 for SUB and the C flag for SBC. -/
theorem subResult : Obligations.SubResult := by
  refine ⟨fun o => ⟨encodedAs_ofSrc .sub o, encodedAs_ofSrc .sbc o⟩, fun o s h => ?_⟩
  rw [exec_ofSrc_sub, exec_ofSrc_sbc, subA_of_readable h, subA_of_readable h, Ccr.subbed8_eq, Ccr.subbed8_eq]
  simp only [sub8_eq_sub]
  refine ⟨rfl, ?_⟩
  cases s.ccr.c <;> rfl

/-- Settles O25: the rows as the statement writes them are the rows of the model's table, of which at most one fits. -/
theorem daaResult : Obligations.DaaResult := by
  refine ⟨encodedAs_of_encode rfl rfl, fun s => ?_⟩
  intro table fits result
  have htable : daaTable = table.map DaaRow.ofTuple := rfl
  have hfits : ∀ r, fits r ↔ (DaaRow.ofTuple r).fits s.ccr.c s.ccr.hf s.a = true := fun r => by
    rw [DaaRow.fits_iff]
    simp only [fits, DaaRow.ofTuple]
    grind
  refine ⟨fun r hmem hr => ?row, fun hnone => ?noRow⟩
  case row =>
    have hrow := daaRow_eq_some_of_fits (htable ▸ List.mem_map_of_mem hmem) ((hfits r).mp hr)
    exact ⟨_, _, congrArg Host.Outcome.next (decimalAdjust_of_row hrow)⟩
  case noRow =>
    have hrow : daaRow s.ccr.c s.ccr.hf s.a = none := by
      simpa [daaRow, htable, ← hfits] using hnone
    exact ⟨_, _, _, _, congrArg Host.Outcome.next (decimalAdjust_of_no_row hrow)⟩

/-- Settles O26: the product is taken apart into its bytes. -/
theorem mulResult : Obligations.MulResult := by
  refine ⟨encodedAs_of_encode rfl rfl, fun s => ⟨_, _, ?_, rfl⟩⟩
  rw [← toNat_joinBytes, joinBytes_hiByte_loByte, toNat_product]

/-- Settles O27: the quotient fits in A exactly if H is below X, and the remainder is below X. -/
theorem divResult : Obligations.DivResult := by
  refine ⟨encodedAs_of_encode rfl rfl, fun s => ⟨fun h => ?quotient, fun h => ?overflow⟩⟩
  case quotient =>
    obtain ⟨q, r, hq, hr, hdivide⟩ := divide_of_lt h
    refine ⟨q, r, ?_, ?_, congrArg Host.Outcome.next hdivide⟩
    · rw [hq, hr, Nat.div_add_mod']
    · rw [hr]
      exact Nat.mod_lt _ (Nat.zero_lt_of_lt h)
  case overflow => exact ⟨_, _, _, _, congrArg Host.Outcome.next (divide_of_le h)⟩

/-- Settles O59: the sum of the bytes is the sum of the tens and the sum of the units, each in its nibble, and DAA
corrects it by the row that fits. -/
theorem bcdAddition : Obligations.BcdAddition := by
  intro x y o s t u hx hy hs hm hdaa
  have hu : decimalAdjust t = u := Host.Outcome.next.inj hdaa
  subst hu
  rw [exec_ofSrc_add, exec_ofSrc_adc, finish_eq_next, finish_eq_next]
  exact ⟨decimalAdjust_of_addA hx hy hs hm, decimalAdjust_of_addA hx hy hs hm⟩

end Sys2Proof.Proofs
end

section
/-! PROOF. DEC, INC and NEG, and AIS and AIX (spec/43_arithmetic_monadic.md R180 to R184): a read-modify-write of one
place, whatever its byte function is, and the addition of a signed byte to a 16-bit register. -/

namespace Sys2Proof

/-- The byte function of an operation that reads a place and writes it back (R65); TST does not write, and CLR does not
read. -/
def PlaceOp.byteFunction (op : PlaceOp) : Option (Byte → Machine.Ccr → Byte × Machine.Ccr) :=
  match op with
  | .neg => some Machine.negByte
  | .com => some Machine.comByte
  | .lsr => some Machine.lsrByte
  | .ror => some Machine.rorByte
  | .asr => some Machine.asrByte
  | .lsl => some Machine.lslByte
  | .rol => some Machine.rolByte
  | .dec => some Machine.decByte
  | .inc => some Machine.incByte
  | .tst => none
  | .clr => none

namespace Machine

/-! ### Read-modify-write operations -/

/-- The byte function is what `exec` runs on the place, in all six forms. -/
theorem exec_ofPlace_of_byteFunction {op : PlaceOp} {f : Byte → Ccr → Byte × Ccr} (hop : op.byteFunction = some f)
    (p : Place) (s : State) : exec (.ofPlace op p) s = finish (modifyPlace p f s) := by
  cases op with
  | tst | clr => cases hop
  | neg | com | lsr | ror | asr | lsl | rol | dec | inc => cases hop; cases p <;> rfl

theorem exec_ofPlace_of_writable {op : PlaceOp} {f : Byte → Ccr → Byte × Ccr} {p : Place} {s : State}
    (hop : op.byteFunction = some f) (h : placeWritable p s) : exec (.ofPlace op p) s =
      .next { placePut p (f (placeValue p s) s.ccr).1 (placeAfter p s) with
        ccr := (f (placeValue p s) s.ccr).2, pc := s.npc (placeLen p) } :=
  (exec_ofPlace_of_byteFunction hop p s).trans (congrArg finish (modifyPlace_eq_ok.mpr ⟨h, rfl⟩))

/-- NEG is the two's complement; C is set exactly if the operand was not 0 (R182). -/
theorem negByte_eq (v : Byte) (f : Ccr) : negByte v f = (-v, { f with
    v := decide (v = 0x80), n := (-v).getLsbD 7, z := decide (-v = 0), c := decide (v ≠ 0) }) := by
  have hneg : (0 : Byte) - v = -v := zero_sub v
  rw [negByte, hneg, decide_not]
  rfl

/-! ### Signed bytes added to words -/

/-- The byte is sign-extended, so it counts as a signed number; the sum wraps (D3). -/
theorem toInt_add_sext16 (w : Word) (b : Byte) : (w + sext16 b).toInt = (w.toInt + b.toInt).bmod 65536 := by
  have hsext : (sext16 b).toInt = b.toInt := BitVec.toInt_signExtend_of_le (by decide)
  rw [BitVec.toInt_add, hsext]

end Machine

end Sys2Proof

namespace Sys2Proof.Proofs

open Sys2Proof Sys2Proof.Machine

/-- Settles O28: each is one read-modify-write of the place, DEC and INC with a byte function that keeps C. -/
theorem decIncNegResult : Obligations.DecIncNegResult := by
  refine ⟨fun p => ⟨encodedAs_ofPlace .dec p, encodedAs_ofPlace .inc p, encodedAs_ofPlace .neg p⟩, fun p s h => ?_⟩
  refine ⟨exec_ofPlace_of_writable (f := decByte) rfl h, exec_ofPlace_of_writable (f := incByte) rfl h, ?neg⟩
  case neg =>
    rw [exec_ofPlace_of_writable (f := negByte) rfl h, negByte_eq]

/-- Settles O29: SP and H:X get their sum with the sign-extended byte, H:X as its two bytes. -/
theorem aisAixResult : Obligations.AisAixResult := by
  refine ⟨fun ii => ⟨encodedAs_of_encode rfl rfl, encodedAs_of_encode rfl rfl⟩, fun ii s => ⟨?ais, ?aix⟩⟩
  case ais => exact ⟨s.sp + sext16 ii, toInt_add_sext16 s.sp ii, rfl⟩
  case aix =>
    refine ⟨hiByte (s.hx + sext16 ii), loByte (s.hx + sext16 ii), ?_, rfl⟩
    rw [joinBytes_hiByte_loByte, toInt_add_sext16]

end Sys2Proof.Proofs
end

section
/-! PROOF. LSL, ASR, LSR, ROL and ROR (spec/44_rotates_shifts.md R190 to R195): the bits move one place, one bit enters
at the end they leave, and the bit at the other end goes to C. LSL and LSR are ROL and ROR with a 0 entering. -/

namespace Sys2Proof.Machine

/-! ### Bytes moved by one bit -/

/-- The bits of `m` one place up, with `into` in bit 0. -/
def ShiftedUp (into : Bool) (m r : Byte) : Prop :=
  r.getLsbD 0 = into ∧ ∀ k : Fin 7, r.getLsbD (k + 1) = m.getLsbD k

/-- The bits of `m` one place down, with `into` in bit 7. -/
def ShiftedDown (into : Bool) (m r : Byte) : Prop :=
  r.getLsbD 7 = into ∧ ∀ k : Fin 7, r.getLsbD k = m.getLsbD (k + 1)

/-- What ROL and ROR or into the shifted byte is the bit that enters, at its place, and nothing else. -/
theorem getLsbD_ite_bitMask (into : Bool) (n k : Fin 8) :
    (if into then bitMask n else 0x00#8).getLsbD k = (into && decide (k = n)) := by
  cases into
  · exact BitVec.getLsbD_zero
  · exact getLsbD_bitMask n k

theorem shiftedUp_rotate (into : Bool) (m : Byte) :
    ShiftedUp into m ((m <<< 1) ||| (if into then bitMask 0 else 0x00#8)) := by
  refine ⟨?entering, fun k => ?moved⟩
  case entering =>
    have hbit := getLsbD_ite_bitMask into 0 0
    simpa [BitVec.getLsbD_or] using hbit
  case moved =>
    have hmask : (if into then bitMask 0 else 0x00#8).getLsbD (k + 1) = false := by
      have hbit := getLsbD_ite_bitMask into 0 k.succ
      rwa [decide_eq_false (Fin.succ_ne_zero k), Bool.and_false] at hbit
    have hshift : (m <<< 1).getLsbD (k + 1) = m.getLsbD k := by
      have hinside : k.val + 1 < 8 := by omega
      rw [BitVec.getLsbD_shiftLeft, decide_eq_true hinside, Nat.add_sub_cancel]
      simp
    rw [BitVec.getLsbD_or, hmask, hshift, Bool.or_false]

theorem shiftedDown_rotate (into : Bool) (m : Byte) :
    ShiftedDown into m ((m >>> 1) ||| (if into then bitMask 7 else 0x00#8)) := by
  refine ⟨?entering, fun k => ?moved⟩
  case entering =>
    have hbit := getLsbD_ite_bitMask into 7 7
    simpa [BitVec.getLsbD_or] using hbit
  case moved =>
    have hmask : (if into then bitMask 7 else 0x00#8).getLsbD k = false := by
      have hbelow : k.castSucc ≠ 7 := Fin.castSucc_ne_last k
      have hbit := getLsbD_ite_bitMask into 7 k.castSucc
      rwa [decide_eq_false hbelow, Bool.and_false] at hbit
    have hshift : (m >>> 1).getLsbD k = m.getLsbD (k + 1) := by
      rw [BitVec.getLsbD_ushiftRight, Nat.add_comm]
    rw [BitVec.getLsbD_or, hmask, hshift, Bool.or_false]

theorem shiftedUp_shiftLeft (m : Byte) : ShiftedUp false m (m <<< 1) := by
  simpa using shiftedUp_rotate false m

theorem shiftedDown_ushiftRight (m : Byte) : ShiftedDown false m (m >>> 1) := by
  simpa using shiftedDown_rotate false m

/-- The arithmetic shift holds bit 7 (R191). -/
theorem shiftedDown_sshiftRight (m : Byte) : ShiftedDown (m.getLsbD 7) m (m.sshiftRight 1) := by
  refine ⟨?entering, fun k => ?moved⟩
  case entering =>
    rw [BitVec.getLsbD_sshiftRight, BitVec.msb_eq_getLsbD_last]
    rfl
  case moved =>
    have hbelow : ¬ 8 ≤ k.val := by omega
    have hinside : 1 + k.val < 8 := by omega
    rw [BitVec.getLsbD_sshiftRight, decide_eq_false hbelow, if_pos hinside, Nat.add_comm]
    rfl

/-! ### Operations with the flags of a shift -/

/-- A read-modify-write whose byte function answers `r`, with `out` shifted out. -/
theorem exec_ofPlace_of_shifted {op : PlaceOp} {f : Byte → Ccr → Byte × Ccr} {p : Place} {s : State} {r : Byte}
    {out : Bool} (hop : op.byteFunction = some f) (hf : f (placeValue p s) s.ccr = (r, s.ccr.shifted r out))
    (h : placeWritable p s) : exec (.ofPlace op p) s =
      .next { placePut p r (placeAfter p s) with
        ccr := { s.ccr with v := (r.getLsbD 7 ^^ out), n := r.getLsbD 7, z := decide (r = 0), c := out }
        pc := s.npc (placeLen p) } := by
  rw [exec_ofPlace_of_writable hop h, hf]
  rfl

end Sys2Proof.Machine

namespace Sys2Proof.Proofs

open Sys2Proof Sys2Proof.Machine

/-- Settles O30: each is one read-modify-write of the place, whose byte function moves the bits by one and hands the bit
shifted out to the flags. -/
theorem shiftResult : Obligations.ShiftResult := by
  refine ⟨fun p => ⟨encodedAs_ofPlace .lsl p, encodedAs_ofPlace .asr p, encodedAs_ofPlace .lsr p,
    encodedAs_ofPlace .rol p, encodedAs_ofPlace .ror p⟩, fun p s h => ?_⟩
  refine ⟨⟨_, shiftedUp_shiftLeft _, ?lsl⟩, ⟨_, shiftedDown_sshiftRight _, ?asr⟩, ⟨_, shiftedDown_ushiftRight _, ?lsr⟩,
    ⟨_, shiftedUp_rotate _ _, ?rol⟩, ⟨_, shiftedDown_rotate _ _, ?ror⟩⟩
  case lsl => exact exec_ofPlace_of_shifted (f := lslByte) rfl rfl h
  case asr => exact exec_ofPlace_of_shifted (f := asrByte) rfl rfl h
  case lsr => exact exec_ofPlace_of_shifted (f := lsrByte) rfl rfl h
  case rol => exact exec_ofPlace_of_shifted (f := rolByte) rfl rfl h
  case ror => exact exec_ofPlace_of_shifted (f := rorByte) rfl rfl h

end Sys2Proof.Proofs
end

section
/-! PROOF. AND, ORA and EOR, and COM (spec/45_logic.md R200 to R203): a bitwise operation of A and the operand, and a
read-modify-write with the complement; all clear V and take N and Z from the result, and COM sets C. -/

namespace Sys2Proof

/-- The bitwise operation of A and the operand that an operation leaves in A; the others have none. -/
def SrcOp.bitwise (op : SrcOp) : Option (Byte → Byte → Byte) :=
  match op with
  | .and => some (fun a m => a &&& m)
  | .ora => some (fun a m => a ||| m)
  | .eor => some (fun a m => a ^^^ m)
  | _ => none

namespace Machine

theorem logicA_of_readable {f : Byte → Byte → Byte} {o : Src} {s : State} (h : srcReadable o s) : logicA f o s =
    .ok { srcAfter o s with
      a := f s.a (srcValue o s), ccr := s.ccr.loaded8 (f s.a (srcValue o s)), pc := s.npc (srcLen o) } := by
  simp only [logicA, loadSrc_of_readable h, ok_bind]

/-- The bitwise operation is what `exec` runs on the operand, in all eight forms. -/
theorem exec_ofSrc_of_bitwise {op : SrcOp} {f : Byte → Byte → Byte} (hop : op.bitwise = some f) (o : Src)
    (s : State) : exec (.ofSrc op o) s = finish (logicA f o s) := by
  cases op with
  | sub | cmp | sbc | cpx | bit | lda | adc | add | ldx => cases hop
  | and | ora | eor =>
    cases hop
    cases o with
    | imm ii => rfl
    | mem e => cases e <;> rfl

theorem exec_ofSrc_of_bitwise_of_readable {op : SrcOp} {f : Byte → Byte → Byte} {o : Src} {s : State}
    (hop : op.bitwise = some f) (h : srcReadable o s) : exec (.ofSrc op o) s =
      .next { srcAfter o s with
        a := f s.a (srcValue o s), ccr := s.ccr.loaded8 (f s.a (srcValue o s)), pc := s.npc (srcLen o) } :=
  (exec_ofSrc_of_bitwise hop o s).trans (congrArg finish (logicA_of_readable h))

/-- The complement of a byte is `$FF` less the byte; COM sets C (R203). -/
theorem comByte_eq (v : Byte) (f : Ccr) :
    comByte v f = (0xFF - v, { f.loaded8 (0xFF - v) with c := true }) := by
  have hcomplement : 0xFF - v = ~~~v := BitVec.allOnes_sub_eq_not v
  rw [hcomplement]
  rfl

end Machine

end Sys2Proof

namespace Sys2Proof.Proofs

open Sys2Proof Sys2Proof.Machine

/-- Settles O31: AND, ORA and EOR are one bitwise operation of A and the byte read, and COM is a read-modify-write with
`$FF` less the byte. -/
theorem logicResult : Obligations.LogicResult := by
  refine ⟨fun o => ⟨encodedAs_ofSrc .and o, encodedAs_ofSrc .ora o, encodedAs_ofSrc .eor o⟩, encodedAs_ofPlace .com,
    fun o s h => ⟨?and, ?ora, ?eor⟩, fun p s h => ?com⟩
  case and => exact exec_ofSrc_of_bitwise_of_readable (op := .and) rfl h
  case ora => exact exec_ofSrc_of_bitwise_of_readable (op := .ora) rfl h
  case eor => exact exec_ofSrc_of_bitwise_of_readable (op := .eor) rfl h
  case com =>
    rw [exec_ofPlace_of_writable (f := comByte) rfl h, comByte_eq]
    rfl

end Sys2Proof.Proofs
end

section
/-! PROOF. CMP, CPX, CPHX, BIT, TST, BRCLR n and BRSET n (spec/46_data_compare.md R210 to R216): reads that leave
nothing but flags, and for the two branches PC. A comparison is a subtraction whose difference is not kept. -/

namespace Sys2Proof.Machine

/-! ### The flags of a comparison -/

theorem differenceWithBorrow_false {w : Nat} (x y : BitVec w) : differenceWithBorrow x y false = x - y :=
  BitVec.sub_zero (x - y)

theorem sub16_eq_sub (p q : Word) : sub16 p q = p - q := by
  rw [sub16_eq_differenceWithBorrow, differenceWithBorrow_false]

/-- Without a borrow in, the difference is 0 exactly if the two bytes are equal. -/
theorem Ccr.subbed8_false_eq (f : Ccr) (r m : Byte) : f.subbed8 r m false =
    { f with
      v := decide (r.getLsbD 7 ≠ m.getLsbD 7) && decide ((r - m).getLsbD 7 ≠ r.getLsbD 7)
      n := (r - m).getLsbD 7
      z := decide (r = m)
      c := decide (m.toNat > r.toNat) } := by
  have hdiff : sub8 r m false = r - m := by rw [sub8_eq_differenceWithBorrow, differenceWithBorrow_false]
  have hzero : decide (r - m = 0) = decide (r = m) := decide_eq_decide.mpr sub_eq_zero
  rw [Ccr.subbed8_eq, hdiff, hzero]
  rfl

/-- The same for two words; the borrow is unsigned (C1). -/
theorem Ccr.subbed16_eq (f : Ccr) (p q : Word) : f.subbed16 p q =
    { f with
      v := decide (p.getLsbD 15 ≠ q.getLsbD 15) && decide ((p - q).getLsbD 15 ≠ p.getLsbD 15)
      n := (p - q).getLsbD 15
      z := decide (p = q)
      c := decide (q.toNat > p.toNat) } := by
  have hzero : decide (p - q = 0) = decide (p = q) := decide_eq_decide.mpr sub_eq_zero
  rw [← hzero, decide_not, decide_not, ← sub16_eq_sub]
  rfl

/-! ### Where a branch goes -/

theorem State.branchTarget_eq (s : State) (len : Nat) (rr : Byte) (taken : Bool) :
    s.branchTarget len rr taken = if taken then s.npc len + rr.signExtend 16 else s.npc len := by
  cases taken with
  | true => rfl
  | false => exact BitVec.add_zero (s.npc len)

/-! ### What the operations leave -/

section Meanings

variable {s : State} {o : Src} {p : Place} {r dd rr : Byte} {n : Nat} {wanted : Bool}

theorem compare8_of_readable (h : srcReadable o s) : compare8 r o s =
    .ok { srcAfter o s with ccr := s.ccr.subbed8 r (srcValue o s) false, pc := s.npc (srcLen o) } := by
  simp only [compare8, loadSrc_of_readable h, ok_bind]

/-- The high byte is the one at the lower address, which is read first (R53, D10). -/
theorem compareHxDir_of_readable (h : s.readable (zext16 dd)) (h' : s.readable (zext16 dd + 1)) :
    let s1 := s.afterRead (zext16 dd)
    let m := joinBytes (s.readValue (zext16 dd)) (s1.readValue (zext16 dd + 1))
    compareHxDir dd s = .ok { s1.afterRead (zext16 dd + 1) with ccr := s.ccr.subbed16 s.hx m, pc := s.npc 2 } := by
  simp only [compareHxDir, readWord_of_readable h h', ok_bind]

theorem testBits_of_readable (h : srcReadable o s) : testBits o s =
    .ok { srcAfter o s with ccr := s.ccr.loaded8 (s.a &&& srcValue o s), pc := s.npc (srcLen o) } := by
  simp only [testBits, loadSrc_of_readable h, ok_bind]

theorem testPlace_of_readable (h : placeReadable p s) : testPlace p s =
    .ok { placeAfter p s with ccr := s.ccr.loaded8 (placeValue p s), pc := s.npc (placeLen p) } := by
  simp only [testPlace, loadPlace_of_readable h, ok_bind]

theorem branchOnBit_of_readable (h : s.readable (zext16 dd)) :
    let bit := (s.readValue (zext16 dd)).getLsbD n
    branchOnBit wanted n dd rr s = .ok { s.afterRead (zext16 dd) with
      ccr := { s.ccr with c := bit }
      pc := if bit == wanted then s.npc 3 + rr.signExtend 16 else s.npc 3 } := by
  simp only [branchOnBit, readByte_of_readable h, ok_bind, State.branchTarget_eq]

end Meanings

/-! ### The rows -/

theorem exec_ofSrc_cmp (o : Src) (s : State) : exec (.ofSrc .cmp o) s = finish (compare8 s.a o s) := by
  cases o with
  | imm ii => rfl
  | mem e => cases e <;> rfl

theorem exec_ofSrc_cpx (o : Src) (s : State) : exec (.ofSrc .cpx o) s = finish (compare8 s.x o s) := by
  cases o with
  | imm ii => rfl
  | mem e => cases e <;> rfl

theorem exec_ofSrc_bit (o : Src) (s : State) : exec (.ofSrc .bit o) s = finish (testBits o s) := by
  cases o with
  | imm ii => rfl
  | mem e => cases e <;> rfl

theorem exec_ofPlace_tst (p : Place) (s : State) : exec (.ofPlace .tst p) s = finish (testPlace p s) := by
  cases p <;> rfl

theorem encodedAs_ofBrclr (n : Fin 8) (dd rr : Byte) :
    encodedAs (.ofBrclr n dd rr) [BitVec.ofNat 8 (0x01 + 2 * n), dd, rr] 5 := by
  fin_cases n <;> exact encodedAs_of_encode rfl rfl

theorem encodedAs_ofBrset (n : Fin 8) (dd rr : Byte) :
    encodedAs (.ofBrset n dd rr) [BitVec.ofNat 8 (0x00 + 2 * n), dd, rr] 5 := by
  fin_cases n <;> exact encodedAs_of_encode rfl rfl

theorem exec_ofBrclr (n : Fin 8) (dd rr : Byte) (s : State) :
    exec (.ofBrclr n dd rr) s = finish (branchOnBit false n dd rr s) := by
  fin_cases n <;> rfl

theorem exec_ofBrset (n : Fin 8) (dd rr : Byte) (s : State) :
    exec (.ofBrset n dd rr) s = finish (branchOnBit true n dd rr s) := by
  fin_cases n <;> rfl

end Sys2Proof.Machine

namespace Sys2Proof.Proofs

open Sys2Proof Sys2Proof.Machine

/-- Settles O32: each is a subtraction without a borrow in, from the register, of which the flags alone are kept. -/
theorem compareResult : Obligations.CompareResult := by
  refine ⟨fun o => ⟨encodedAs_ofSrc .cmp o, encodedAs_ofSrc .cpx o⟩, fun _ => encodedAs_of_encode rfl rfl,
    fun _ => encodedAs_of_encode rfl rfl, fun o s h => ⟨?cmp, ?cpx⟩, fun s => ⟨fun jjkk => ?imm, fun dd h h' => ?dir⟩⟩
  case cmp =>
    rw [exec_ofSrc_cmp, compare8_of_readable h, Ccr.subbed8_false_eq]
    rfl
  case cpx =>
    rw [exec_ofSrc_cpx, compare8_of_readable h, Ccr.subbed8_false_eq]
    rfl
  case imm =>
    simp only [← Ccr.subbed16_eq]
    rfl
  case dir =>
    simp only [← Ccr.subbed16_eq]
    exact congrArg finish (compareHxDir_of_readable h h')

/-- Settles O33: BIT takes its flags from the AND with A, TST from the byte itself. -/
theorem testResult : Obligations.TestResult :=
  ⟨encodedAs_ofSrc .bit, encodedAs_ofPlace .tst,
    fun o s h => (exec_ofSrc_bit o s).trans (congrArg finish (testBits_of_readable h)),
    fun p s h => (exec_ofPlace_tst p s).trans (congrArg finish (testPlace_of_readable h))⟩

/-- Settles O34: BRCLR branches where the bit equals 0, BRSET where it equals 1. -/
theorem bitBranchResult : Obligations.BitBranchResult := by
  refine ⟨fun n dd rr => ⟨encodedAs_ofBrclr n dd rr, encodedAs_ofBrset n dd rr⟩, fun n dd rr s h => ⟨?clear, ?set⟩⟩
  case clear =>
    rw [exec_ofBrclr, branchOnBit_of_readable h, beq_false]
    rfl
  case set =>
    rw [exec_ofBrset, branchOnBit_of_readable h, beq_true]
    rfl

end Sys2Proof.Proofs
end

section
/-! PROOF. The relative branches (spec/47_branches.md R230 to R250, spec/48_signed_branches.md R260 to R263): each goes
on by one test of the flags, and after a comparison the ten tests of its flags are the relations between the two
numbers compared. -/

namespace Sys2Proof.Machine

/-! ### Where a relative branch goes -/

theorem branchIf_eq (taken : Bool) (rr : Byte) (s : State) :
    branchIf taken rr s = { s with pc := if taken then s.pc + 2 + rr.signExtend 16 else s.pc + 2 } := by
  rw [branchIf, State.branchTarget_eq]
  rfl

/-- What the statement asks of a branch whose test is `taken`, in the row `opcode`. -/
theorem branch_row {i : Instr} {opcode rr : Byte} {taken : Bool} {s : State} (hbytes : encode i = [opcode, rr])
    (hcycles : i.cycles = 3) (hexec : exec i s = .next (branchIf taken rr s)) :
    encodedAs i [opcode, rr] 3 ∧
      exec i s = .next { s with pc := if taken then s.pc + 2 + rr.signExtend 16 else s.pc + 2 } :=
  ⟨encodedAs_of_encode hbytes hcycles, hexec.trans (congrArg _ (branchIf_eq taken rr s))⟩

/-! ### What the flags of a difference say -/

/-- N and V together are the sign of the exact difference: N is its sign where V is clear, and where V is set the two
numbers have different signs, so that the sign of the first decides. -/
theorem negative_xor_overflow {w : Nat} (hw : 0 < w) (x y : BitVec w) (b : Bool) :
    let r := differenceWithBorrow x y b
    (r.msb ^^ ((x.msb != y.msb) && (r.msb != x.msb))) = decide (x.toInt < y.toInt + b.toNat) := by
  intro r
  have hexact := difference_overflow_eq_false_iff x y b hw
  have hb := b.toNat_le
  cases hv : (x.msb != y.msb) && (r.msb != x.msb) with
  | false =>
    have hr : r.toInt = x.toInt - y.toInt - b.toNat := hexact.mp hv
    rw [Bool.xor_false, BitVec.msb_eq_toInt, decide_eq_decide]
    omega
  | true =>
    rw [Bool.and_eq_true, bne_iff_ne, bne_iff_ne] at hv
    obtain ⟨hxy, hrx⟩ := hv
    rw [Bool.xor_true, ← Bool.eq_not.mpr hrx.symm]
    rw [BitVec.msb_eq_toInt, BitVec.msb_eq_toInt, ne_eq, decide_eq_decide] at hxy
    rw [BitVec.msb_eq_toInt, decide_eq_decide]
    omega

/-- What the conditional branches read off the flags: C whether the first number was the lower one, N and V whether it
was the lower one as a signed number, Z whether nothing is left. -/
structure Relates (f : Ccr) (ult slt eq : Bool) : Prop where
  lower : f.c = ult
  less : (f.n ^^ f.v) = slt
  equal : f.z = eq

section Relations

variable (f : Ccr) (r m : Byte) (p q : Word) (b : Bool)

theorem relates_subbed8 : Relates (f.subbed8 r m b) (decide (r.toNat < m.toNat + bitNat b))
    (decide (r.toInt < m.toInt + bitNat b)) (sub8 r m b == 0) where
  lower := rfl
  less := by
    rw [bitNat_eq_toNat, ← negative_xor_overflow (by decide) r m b, ← sub8_eq_differenceWithBorrow]
    rfl
  equal := rfl

theorem relates_subbed8_false : Relates (f.subbed8 r m false) (r.ult m) (r.slt m) (r == m) := by
  obtain ⟨hlower, hless, -⟩ := relates_subbed8 f r m false
  refine ⟨hlower, hless.trans ?_, ?_⟩
  · simp [BitVec.slt_eq_decide, bitNat]
  · rw [Ccr.subbed8_false_eq]
    rfl

theorem relates_subbed16 : Relates (f.subbed16 p q) (p.ult q) (p.slt q) (p == q) where
  lower := rfl
  less := by
    have hless := negative_xor_overflow (by decide) p q false
    rw [← sub16_eq_differenceWithBorrow, Bool.toNat_false, Int.natCast_zero, Int.add_zero] at hless
    exact hless
  equal := by
    rw [Ccr.subbed16_eq]
    rfl

end Relations

/-! ### The flags that the comparisons leave -/

section Meanings

variable {s t : State} {o : Src} {r dd : Byte} {b : Bool}

theorem ccr_of_compare8 (h : finish (compare8 r o s) = .next t) : t.ccr = s.ccr.subbed8 r (srcValue o s) false := by
  obtain ⟨p, hload, ⟨⟩⟩ := bind_eq_ok.mp (finish_eq_next.mp h)
  obtain ⟨-, rfl⟩ := loadSrc_eq_ok.mp hload
  rfl

theorem ccr_of_subA (h : finish (subA b o s) = .next t) :
    t.ccr = s.ccr.subbed8 s.a (srcValue o s) b ∧ t.a = sub8 s.a (srcValue o s) b := by
  obtain ⟨p, hload, ⟨⟩⟩ := bind_eq_ok.mp (finish_eq_next.mp h)
  obtain ⟨-, rfl⟩ := loadSrc_eq_ok.mp hload
  exact ⟨rfl, rfl⟩

theorem ccr_of_compareHxDir (h : finish (compareHxDir dd s) = .next t) :
    t.ccr = s.ccr.subbed16 s.hx
      (joinBytes (s.readValue (zext16 dd)) ((s.afterRead (zext16 dd)).readValue (zext16 dd + 1))) := by
  obtain ⟨p, hread, ⟨⟩⟩ := bind_eq_ok.mp (finish_eq_next.mp h)
  obtain ⟨-, -, rfl⟩ := readWord_eq_ok.mp hread
  rfl

end Meanings

/-! ### The rows -/

end Sys2Proof.Machine

namespace Sys2Proof.Proofs

open Sys2Proof Sys2Proof.Machine

/-- Settles O35: each branch is `branchIf` of its test; the signed tests are N and V compared. -/
theorem branchResult : Obligations.BranchResult := by
  intro rr s goes
  have hge : (!(s.ccr.n ^^ s.ccr.v)) = (s.ccr.n == s.ccr.v) := by cases s.ccr.n <;> cases s.ccr.v <;> rfl
  refine ⟨branch_row rfl rfl rfl, branch_row rfl rfl rfl, branch_row rfl rfl rfl, branch_row rfl rfl rfl,
    branch_row rfl rfl rfl, branch_row rfl rfl rfl, branch_row rfl rfl rfl, branch_row rfl rfl rfl,
    branch_row rfl rfl rfl, branch_row rfl rfl rfl, branch_row rfl rfl rfl, branch_row rfl rfl rfl,
    branch_row rfl rfl rfl, branch_row rfl rfl rfl, branch_row rfl rfl rfl, branch_row rfl rfl rfl,
    branch_row rfl rfl ?bge, branch_row rfl rfl rfl, branch_row rfl rfl ?bgt, branch_row rfl rfl rfl⟩
  case bge => rw [← hge]; rfl
  case bgt => rw [← hge, ← Bool.not_or]; rfl

/-- Settles O58: the flags relate the register and the operand, and the ten tests are combinations of the three
relations. -/
theorem compareThenBranch : Obligations.CompareThenBranch := by
  unfold Obligations.CompareThenBranch
  intro decides
  have hdecides {t : State} {ult slt eq : Bool} (h : Relates t.ccr ult slt eq) : decides t ult slt eq := by
    obtain ⟨rfl, rfl, rfl⟩ := h
    intro rr goes
    refine ⟨?bhi, rfl, rfl, rfl, rfl, rfl, ?bgt, ?ble, rfl, rfl⟩
    case bhi => rw [← Bool.not_or]; rfl
    case bgt => rw [← Bool.not_or, Bool.or_comm]; rfl
    case ble => rw [Bool.or_comm]; rfl
  refine ⟨fun o s t => ?bytes, fun m s t h => ?immediate, fun dd s t h => ?direct⟩
  case bytes =>
    intro m
    rw [exec_ofSrc_cmp, exec_ofSrc_sub, exec_ofSrc_cpx, exec_ofSrc_sbc]
    refine ⟨fun h => ?cmp, fun h => ?sub, fun h => ?cpx, fun h => ?sbc⟩
    case cmp => exact hdecides (ccr_of_compare8 h ▸ relates_subbed8_false ..)
    case sub => exact hdecides ((ccr_of_subA h).1 ▸ relates_subbed8_false ..)
    case cpx => exact hdecides (ccr_of_compare8 h ▸ relates_subbed8_false ..)
    case sbc =>
      obtain ⟨hccr, ha⟩ := ccr_of_subA h
      exact hdecides (hccr ▸ ha ▸ relates_subbed8 ..)
  case immediate =>
    cases h
    exact hdecides (relates_subbed16 ..)
  case direct => exact hdecides (ccr_of_compareHxDir h ▸ relates_subbed16 ..)

end Sys2Proof.Proofs
end

section
/-! PROOF. CBEQ and DBNZ (spec/48_signed_branches.md R264, R265), and the jumps, calls and returns
(spec/47_branches.md R235, spec/49_jump_return_control.md R280 to R282): what each leaves where its accesses are
allowed, and that RTS undoes a call. -/

namespace Sys2Proof.Machine

/-! ### CBEQ and DBNZ -/

theorem State.branchTarget_beq {w : Nat} (s : State) (len : Nat) (rr : Byte) (x y : BitVec w) :
    s.branchTarget len rr (x == y) = if x = y then s.npc len + rr.signExtend 16 else s.npc len := by
  simp only [State.branchTarget_eq, beq_iff_eq]

section Meanings

variable {s : State} {p : Place} {rr : Byte} {a : Word} {len : Nat}

theorem compareBranch_of_readable (h : s.readable a) : compareBranch a len rr s = .ok { s.afterRead a with
    pc := if s.a = s.readValue a then s.npc len + rr.signExtend 16 else s.npc len } := by
  simp only [compareBranch, readByte_of_readable h, ok_bind, State.branchTarget_beq]

/-- The comparison leaves H:X as it was, so what is incremented is the old H:X. -/
theorem compareBranchBump_of_readable (h : s.readable a) : compareBranchBump a len rr s = .ok { s.afterRead a with
    h := hiByte (s.hx + 1)
    x := loByte (s.hx + 1)
    pc := if s.a = s.readValue a then s.npc len + rr.signExtend 16 else s.npc len } := by
  simp only [compareBranchBump, compareBranch_of_readable h, ok_bind]
  rfl

theorem decrementBranch_of_writable (h : placeWritable p s) :
    let r := placeValue p s - 1
    decrementBranch p rr s = .ok { placePut p r (placeAfter p s) with
      pc := if r = 0 then s.npc (placeLen p + 1) else s.npc (placeLen p + 1) + rr.signExtend 16 } := by
  intro r
  have htarget : s.branchTarget (placeLen p + 1) rr (r != 0) =
      if r = 0 then s.npc (placeLen p + 1) else s.npc (placeLen p + 1) + rr.signExtend 16 := by
    rw [State.branchTarget_eq]
    by_cases hr : r = 0 <;> simp [hr]
  have hwrite := (placeWritable_placeAfter p s).mpr h
  simp only [decrementBranch, loadPlace_of_readable (placeReadable_of_writable h), storePlace_of_writable hwrite,
    ok_bind, ← htarget, r]

end Meanings

theorem exec_ofDbnz (p : Place) (rr : Byte) (s : State) :
    exec (.ofDbnz p rr) s = finish (decrementBranch p rr s) := by
  cases p <;> rfl

/-! ### Calls -/

/-- The low byte is pushed first, and so stands at the higher address (R53). -/
theorem pushWord_of_writable {v : Word} {s : State} (h : s.writable s.sp) (h' : s.writable (s.sp - 1)) :
    pushWord v s = .ok
      { (s.afterWrite s.sp (loByte v)).afterWrite (s.sp - 1) (hiByte v) with sp := s.sp - 2 } := by
  have hsp : s.sp - 1 - 1 = s.sp - 2 := sub_sub s.sp 1 1
  rw [pushWord_eq_ok.mpr ⟨h, h', rfl⟩, ← hsp]
  rfl

section Calls

variable {s : State} (h : s.writable s.sp) (h' : s.writable (s.sp - 1))

include h h'

theorem branchToSub_of_writable (rr : Byte) : branchToSub rr s = .ok
    { (s.afterWrite s.sp (loByte (s.npc 2))).afterWrite (s.sp - 1) (hiByte (s.npc 2)) with
      sp := s.sp - 2, pc := s.npc 2 + rr.signExtend 16 } := by
  simp only [branchToSub, pushWord_of_writable h h', ok_bind, State.branchTarget_eq, if_true]

theorem jumpToSub_of_writable (j : JumpForm) :
    let ret := s.npc (eaLen (jumpEa j))
    jumpToSub j s = .ok
      { (s.afterWrite s.sp (loByte ret)).afterWrite (s.sp - 1) (hiByte ret) with
        sp := s.sp - 2, pc := eaOf (jumpEa j) s } := by
  simp only [jumpToSub, pushWord_of_writable h h', ok_bind]

end Calls

theorem exec_ofJsr (j : JumpForm) (s : State) : exec (.ofJsr j) s = finish (jumpToSub j s) := by
  cases j <;> rfl

theorem exec_ofJmp (j : JumpForm) (s : State) : exec (.ofJmp j) s = finish (jump j s) := by
  cases j <;> rfl

/-! ### Returns -/

theorem returnFromSub_of_readable {s : State} (h : s.readable (s.sp + 1)) (h' : s.readable (s.sp + 2)) :
    let s1 := s.afterRead (s.sp + 1)
    returnFromSub s = .ok { s1.afterRead (s.sp + 2) with
      sp := s.sp + 2, pc := joinBytes (s.readValue (s.sp + 1)) (s1.readValue (s.sp + 2)) } := by
  intro s1
  have hsp : s.sp + 1 + 1 = s.sp + 2 := add_assoc s.sp 1 1
  rw [← hsp] at h' ⊢
  have hpull := pullWord_eq_ok.mpr ⟨_, _, _, _, pull8_of_readable h,
    pull8_of_readable (s := { s1 with sp := s.sp + 1 }) h', rfl⟩
  simp only [returnFromSub, hpull, ok_bind]
  rfl

theorem State.readable_of_ram {s : State} {a : Word} (h : s.kindAt a = .ram) : s.readable a := by
  rw [State.readable, h]
  exact nofun

/-- A return from RAM changes SP and PC alone. -/
theorem returnFromSub_of_ram {s : State} (h : s.kindAt (s.sp + 1) = .ram) (h' : s.kindAt (s.sp + 2) = .ram) :
    returnFromSub s = .ok
      { s with sp := s.sp + 2, pc := joinBytes (s.peek (s.sp + 1)) (s.peek (s.sp + 2)) } := by
  have hio := State.not_io_of_ram h
  have hio' := State.not_io_of_ram h'
  rw [returnFromSub_of_readable (State.readable_of_ram h) (State.readable_of_ram h'), State.afterRead_of_not_io hio,
    State.afterRead_of_not_io hio', State.readValue_of_not_io hio, State.readValue_of_not_io hio']

/-- A return address pushed to RAM changes SP and two bytes of memory alone. -/
theorem pushWord_of_ram {v : Word} {s u : State} (h : s.kindAt s.sp = .ram) (h' : s.kindAt (s.sp - 1) = .ram)
    (hpush : pushWord v s = .ok u) :
    (∃ m, u = { s with sp := s.sp - 2, mem := m }) ∧ u.peek s.sp = loByte v ∧ u.peek (s.sp - 1) = hiByte v := by
  have hio := State.not_io_of_ram h
  have hio' : (s.afterWrite s.sp (loByte v)).kindAt (s.sp - 1) ≠ .io := State.not_io_of_ram h'
  have hne : s.sp ≠ s.sp - 1 := by bv_omega
  rw [pushWord_of_writable (.inl h) (.inl h')] at hpush
  cases hpush
  refine ⟨⟨(s.mem.write s.sp.toNat (loByte v)).write (s.sp - 1).toNat (hiByte v), ?frame⟩,
    (State.peek_afterWrite_other _ hne _).trans (State.peek_afterWrite_same hio _),
    State.peek_afterWrite_same hio' _⟩
  rw [State.afterWrite_of_not_io hio', State.afterWrite_of_not_io hio]

/-- A return finds the return address that was pushed, wherever the call went. -/
theorem returnFromSub_of_pushWord {ret target : Word} {s u : State} (h : s.kindAt s.sp = .ram)
    (h' : s.kindAt (s.sp - 1) = .ram) (hpush : pushWord ret s = .ok u) :
    returnFromSub { u with pc := target } = .ok { s with pc := ret, mem := u.mem } := by
  obtain ⟨⟨m, rfl⟩, hlo, hhi⟩ := pushWord_of_ram h h' hpush
  have hsp1 : s.sp - 2 + 1 = s.sp - 1 := by bv_omega
  have hsp2 : s.sp - 2 + 2 = s.sp := BitVec.sub_add_cancel s.sp 2
  have hreturn := returnFromSub_of_ram (s := { s with sp := s.sp - 2, mem := m, pc := target })
    ((congrArg s.kindAt hsp1).trans h') ((congrArg s.kindAt hsp2).trans h)
  have hret : joinBytes (State.peek { s with sp := s.sp - 2, mem := m, pc := target } (s.sp - 2 + 1))
      (State.peek { s with sp := s.sp - 2, mem := m, pc := target } (s.sp - 2 + 2)) = ret := by
    rw [hsp1, hsp2, ← joinBytes_hiByte_loByte ret, ← hlo, ← hhi]
    rfl
  rw [hreturn, hret, hsp2]

/-! ### RSP -/

theorem joinBytes_and (hi lo hi' lo' : Byte) :
    joinBytes hi lo &&& joinBytes hi' lo' = joinBytes (hi &&& hi') (lo &&& lo') := BitVec.and_append

theorem joinBytes_or (hi lo hi' lo' : Byte) :
    joinBytes hi lo ||| joinBytes hi' lo' = joinBytes (hi ||| hi') (lo ||| lo') := BitVec.or_append

/-- The low byte is set by masking the word and or-ing `$FF` in. -/
theorem joinBytes_hiByte_ff (v : Word) : joinBytes (hiByte v) 0xFF = (v &&& 0xFF00) ||| 0x00FF :=
  calc joinBytes (hiByte v) 0xFF
    _ = joinBytes (hiByte v &&& 0xFF ||| 0x00) (loByte v &&& 0x00 ||| 0xFF) := by
      rw [show hiByte v &&& 0xFF = hiByte v from BitVec.and_allOnes, show loByte v &&& 0x00 = 0x00 from BitVec.and_zero,
        show hiByte v ||| 0x00 = hiByte v from BitVec.or_zero]
      rfl
    _ = joinBytes (hiByte v) (loByte v) &&& joinBytes 0xFF 0x00 ||| joinBytes 0x00 0xFF := by
      rw [joinBytes_and, joinBytes_or]
    _ = (v &&& 0xFF00) ||| 0x00FF := by
      rw [joinBytes_hiByte_loByte]
      rfl

end Sys2Proof.Machine

namespace Sys2Proof.Proofs

open Sys2Proof Sys2Proof.Machine

/-- Settles O38: the six forms are one comparison, and the X+ forms go on to increment H:X. -/
theorem cbeqResult : Obligations.CbeqResult := by
  refine ⟨fun b rr => ⟨encodedAs_of_encode rfl rfl, encodedAs_of_encode rfl rfl, encodedAs_of_encode rfl rfl,
    encodedAs_of_encode rfl rfl, encodedAs_of_encode rfl rfl, encodedAs_of_encode rfl rfl⟩, fun b rr s => ?_⟩
  refine ⟨fun h => ?dir, ?a, ?x, fun h => ?ix1p, fun h => ?ixp, fun h => ?sp1⟩
  case dir => exact congrArg finish (compareBranch_of_readable h)
  case a => exact congrArg (fun pc => Host.Outcome.next { s with pc }) (s.branchTarget_beq 3 rr s.a b)
  case x => exact congrArg (fun pc => Host.Outcome.next { s with pc }) (s.branchTarget_beq 3 rr s.x b)
  case ix1p => exact congrArg finish (compareBranchBump_of_readable h)
  case ixp => exact congrArg finish (compareBranchBump_of_readable h)
  case sp1 => exact congrArg finish (compareBranch_of_readable h)

/-- Settles O39: the place is read and written back, and the branch is taken unless what was written is 0. -/
theorem dbnzResult : Obligations.DbnzResult := by
  refine ⟨fun p rr => ?encoding, fun p rr s h => ?_⟩
  case encoding => cases p <;> exact encodedAs_of_encode rfl rfl
  exact (exec_ofDbnz p rr s).trans (congrArg finish (decrementBranch_of_writable h))

/-- Settles O36: the target of JSR is formed before anything is pushed. -/
theorem callResult : Obligations.CallResult := by
  refine ⟨fun _ => encodedAs_of_encode rfl rfl, fun j => ?encoding, fun s h h' => ⟨fun rr => ?bsr, fun j => ?jsr⟩⟩
  case encoding => cases j <;> exact encodedAs_of_encode rfl rfl
  case bsr => exact congrArg finish (branchToSub_of_writable h h' rr)
  case jsr => exact (exec_ofJsr j s).trans (congrArg finish (jumpToSub_of_writable h h' j))

/-- Settles O37: JMP reads no byte; RTS pulls the high byte first. -/
theorem jmpRtsResult : Obligations.JmpRtsResult := by
  refine ⟨fun j => ?encoding, encodedAs_of_encode rfl rfl, fun j s => ?jmp, fun s h h' => ?rts⟩
  case encoding => cases j <;> exact encodedAs_of_encode rfl rfl
  case jmp => exact exec_ofJmp j s
  case rts => exact congrArg finish (returnFromSub_of_readable h h')

/-- Settles O60: the return finds the two bytes that the call pushed. -/
theorem returnUndoesCall : Obligations.ReturnUndoesCall := by
  intro s t h h' back
  refine ⟨fun rr hcall => ?bsr, fun j hcall => ?jsr⟩
  case bsr =>
    obtain ⟨u, hpush, ⟨⟩⟩ := bind_eq_ok.mp (finish_eq_next.mp hcall)
    exact congrArg finish (returnFromSub_of_pushWord h h' hpush)
  case jsr =>
    rw [exec_ofJsr] at hcall
    obtain ⟨u, hpush, ⟨⟩⟩ := bind_eq_ok.mp (finish_eq_next.mp hcall)
    exact congrArg finish (returnFromSub_of_pushWord h h' hpush)

/-- Settles O40: SEI opens the late window where it finds I clear (R317). -/
theorem flagInstructions : Obligations.FlagInstructions := by
  refine ⟨encodedAs_of_encode rfl rfl, encodedAs_of_encode rfl rfl, encodedAs_of_encode rfl rfl,
    encodedAs_of_encode rfl rfl, fun s => ⟨rfl, rfl, rfl, ?sei⟩⟩
  have hwindow : decide (s.ccr.i = false) = !s.ccr.i := by cases s.ccr.i <;> rfl
  rw [hwindow]
  rfl

/-- Settles O43: RSP keeps the high byte of SP and sets the low one; the others are as the model writes them. -/
theorem rspNopTxsTsxResult : Obligations.RspNopTxsTsxResult := by
  refine ⟨encodedAs_of_encode rfl rfl, encodedAs_of_encode rfl rfl, encodedAs_of_encode rfl rfl,
    encodedAs_of_encode rfl rfl, fun s => ⟨?rsp, rfl, rfl, rfl⟩⟩
  rw [← joinBytes_hiByte_ff]
  rfl

/-- Settles O44: both clear I and change RUN. -/
theorem waitStopResult : Obligations.WaitStopResult :=
  ⟨encodedAs_of_encode rfl rfl, encodedAs_of_encode rfl rfl, fun _ => ⟨rfl, rfl⟩⟩

/-- Settles O45: TAP reads the flags off their bits, and TPA gives the byte of the CCR, whose layout is that of R26. -/
theorem tapTpaResult : Obligations.TapTpaResult := by
  refine ⟨encodedAs_of_encode rfl rfl, encodedAs_of_encode rfl rfl, fun s => ⟨rfl, s.ccr.byte, rfl, ?_⟩⟩
  obtain ⟨h7, h6, h5, h4, h3, h2, h1, h0, -⟩ := ccrLayout.1 s.ccr
  exact ⟨h7, h6, h5, h4, h3, h2, h1, h0⟩

end Sys2Proof.Proofs
end

section
/-! PROOF. Taking an exception and returning from it (spec/49_jump_return_control.md R287, R288, spec/60_exceptions.md
R310, R318, R320): the five bytes of the frame and where they stand, what is read back from them, and that RTI undoes
both entries. -/

namespace Sys2Proof.Machine

/-! ### Bytes pushed one after the other -/

/-- The state after the bytes of a list are pushed, the first one first. -/
def State.pushedAll (s : State) (l : List Byte) : State := l.foldl State.pushed s

/-- The address below the first `k + 1` bytes of the stack is `k` below the next one. -/
theorem sub_ofNat_succ (a : Word) (k : Nat) : a - BitVec.ofNat 16 (k + 1) = a - 1 - BitVec.ofNat 16 k := by
  rw [BitVec.ofNat_add, BitVec.add_comm]
  exact (sub_sub a 1 (BitVec.ofNat 16 k)).symm

theorem State.sp_pushedAll (s : State) (l : List Byte) : (s.pushedAll l).sp = s.sp - BitVec.ofNat 16 l.length := by
  induction l generalizing s with
  | nil => exact (BitVec.sub_zero s.sp).symm
  | cons v l ih => exact (ih (s.pushed v)).trans (sub_ofNat_succ s.sp l.length).symm

/-- Pushing leaves every byte that is not pushed over. -/
theorem State.peek_pushedAll_frame {s : State} {l : List Byte} {b : Word}
    (h : ∀ k < l.length, b ≠ s.sp - BitVec.ofNat 16 k) : (s.pushedAll l).peek b = s.peek b := by
  induction l generalizing s with
  | nil => rfl
  | cons v l ih =>
    have hother : b ≠ s.sp := by simpa using h 0 (Nat.succ_pos _)
    have hrest : ((s.pushed v).pushedAll l).peek b = (s.pushed v).peek b := by
      refine ih fun k hk => ?_
      rw [State.pushed_sp, ← sub_ofNat_succ]
      exact h (k + 1) (Nat.succ_lt_succ hk)
    exact hrest.trans (State.peek_afterWrite_other s hother v)

/-- The byte pushed as number `k` stands `k` below the old SP, as long as the stack does not run into itself. -/
theorem State.peek_pushedAll {s : State} {l : List Byte} {k : Nat} (hk : k < l.length) (hl : l.length ≤ 65536)
    (h : s.kindAt (s.sp - BitVec.ofNat 16 k) ≠ .io) : (s.pushedAll l).peek (s.sp - BitVec.ofNat 16 k) = l[k] := by
  induction l generalizing s k with
  | nil => cases hk
  | cons v l ih =>
    cases k with
    | zero =>
      have hsp : s.sp - BitVec.ofNat 16 0 = s.sp := BitVec.sub_zero s.sp
      rw [hsp] at h ⊢
      have hrest : ((s.pushed v).pushedAll l).peek s.sp = (s.pushed v).peek s.sp := by
        refine State.peek_pushedAll_frame fun k hk' => ?_
        rw [State.pushed_sp, ← sub_ofNat_succ]
        simp only [List.length_cons] at hl
        bv_omega
      exact hrest.trans (State.peek_afterWrite_same h v)
    | succ k =>
      rw [sub_ofNat_succ] at h ⊢
      exact ih (s := s.pushed v) (Nat.lt_of_succ_lt_succ hk) (Nat.le_of_succ_le hl) h

/-! ### Entry -/

/-- The bytes of an exception frame in the order in which they are pushed (R287). -/
def exceptionFrame (ret : Word) (s : State) : List Byte := [loByte ret, hiByte ret, s.x, s.a, s.ccr.byte]

theorem framed_eq_pushedAll (ret : Word) (s : State) : framed ret s = s.pushedAll (exceptionFrame ret s) := rfl

/-- What taking an exception leaves: SP five lower, I set, PC from the vector, and the frame on the stack. -/
structure Entered (ret vector : Word) (s t : State) : Prop where
  params : t.params = s.params
  sp : t.sp = s.sp - 5
  a : t.a = s.a
  x : t.x = s.x
  h : t.h = s.h
  ccr : t.ccr = { s.ccr with i := true }
  pc : s.kindAt vector ≠ .io → s.kindAt (vector + 1) ≠ .io → t.pc = joinBytes (t.peek vector) (t.peek (vector + 1))
  pcl : s.kindAt s.sp = .ram → t.peek s.sp = loByte ret
  pch : s.kindAt (s.sp - 1) = .ram → t.peek (s.sp - 1) = hiByte ret
  index : s.kindAt (s.sp - 2) = .ram → t.peek (s.sp - 2) = s.x
  acc : s.kindAt (s.sp - 3) = .ram → t.peek (s.sp - 3) = s.a
  flags : s.kindAt (s.sp - 4) = .ram → t.peek (s.sp - 4) = s.ccr.byte
  frame : ∀ b, b ∉ [s.sp, s.sp - 1, s.sp - 2, s.sp - 3, s.sp - 4] → t.peek b = s.peek b

/-- The addresses of the frame, counted down from the old SP. -/
theorem mem_frame_addresses (a : Word) {k : Nat} (hk : k < 5) :
    a - BitVec.ofNat 16 k ∈ [a, a - 1, a - 2, a - 3, a - 4] := by
  interval_cases k <;> simp

/-- The bytes of the frame on the stack. -/
theorem peek_framed (ret : Word) {s : State} {k : Nat} (hk : k < 5)
    (h : s.kindAt (s.sp - BitVec.ofNat 16 k) = .ram) :
    (framed ret s).peek (s.sp - BitVec.ofNat 16 k) = (exceptionFrame ret s)[k] :=
  State.peek_pushedAll (l := exceptionFrame ret s) hk (by simp [exceptionFrame]) (State.not_io_of_ram h)

theorem peek_framed_frame (ret : Word) {s : State} {b : Word}
    (h : b ∉ [s.sp, s.sp - 1, s.sp - 2, s.sp - 3, s.sp - 4]) : (framed ret s).peek b = s.peek b :=
  State.peek_pushedAll_frame (l := exceptionFrame ret s) fun _ hk e => h (e ▸ mem_frame_addresses s.sp hk)

/-- Reading the vector leaves registers and memory as the frame left them. -/
theorem entered_of_enterException {ret vector : Word} {s t : State} (h : enterException ret vector s = .ok t) :
    Entered ret vector s t := by
  obtain ⟨-, target, u, hvector, rfl⟩ := enterException_eq_ok.mp h
  obtain ⟨-, -, hread⟩ := readWord_eq_ok.mp hvector
  obtain ⟨rfl, rfl⟩ := Prod.mk.inj hread
  obtain ⟨⟨ha, hx, hh, -⟩, -, hs⟩ : Moves .onlySp s (framed ret s) := .framed
  have hsp : (framed ret s).sp = s.sp - 5 := s.sp_pushedAll (exceptionFrame ret s)
  have hkind : ∀ b, (framed ret s).kindAt b = s.kindAt b := State.kindAt_congr hs.params
  have hbyte {k : Nat} (hk : k < 5) := peek_framed ret (s := s) hk
  have hzero : s.sp - BitVec.ofNat 16 0 = s.sp := BitVec.sub_zero s.sp
  have hframe {b : Word} := peek_framed_frame ret (s := s) (b := b)
  generalize framed ret s = f at *
  exact {
    params := hs.params
    sp := hsp
    a := ha rfl
    x := hx rfl
    h := hh rfl
    ccr := rfl
    pc := fun hhi hlo => congrArg₂ joinBytes (State.readValue_of_not_io ((hkind _).trans_ne hhi))
      (State.readValue_of_not_io ((hkind _).trans_ne hlo))
    pcl := hzero ▸ hbyte (k := 0) (by decide)
    pch := hbyte (k := 1) (by decide)
    index := hbyte (k := 2) (by decide)
    acc := hbyte (k := 3) (by decide)
    flags := hbyte (k := 4) (by decide)
    frame := fun _ => hframe }

/-- RUN and `PENDING` are no part of what an entry leaves. -/
theorem Entered.set {ret vector : Word} {s t : State} (h : Entered ret vector s t) {r : Run} {l : List IntSource} :
    Entered ret vector s { t with run := r, pending := l } := by
  obtain ⟨hparams, hsp, ha, hx, hh, hccr, hpc, hpcl, hpch, hindex, hacc, hflags, hframe⟩ := h
  exact ⟨hparams, hsp, ha, hx, hh, hccr, hpc, hpcl, hpch, hindex, hacc, hflags, hframe⟩

theorem firstForbidden_eq_none {l : List Access} {s : State} (h : ∀ x ∈ l, x.allowed s = true) :
    firstForbidden l s = none := by
  simpa [firstForbidden] using h

/-- The interrupt of a source is an entry from the instruction that was about to run (R318). -/
theorem takeInterrupt_of_allowed {src : IntSource} {vector : Word} {s : State}
    (hstack : ∀ k : Fin 5, s.writable (s.sp - BitVec.ofNat 16 k)) (hhi : s.readable vector)
    (hlo : s.readable (vector + 1)) : ∃ t, takeInterrupt src vector s = .ok t := by
  have hzero : s.sp - BitVec.ofNat 16 0 = s.sp := BitVec.sub_zero s.sp
  have hallowed : ∀ x ∈ [Access.write s.sp, .write (s.sp - 1), .write (s.sp - 2), .write (s.sp - 3), .write (s.sp - 4),
      .read vector, .read (vector + 1)], x.allowed s = true := by
    simp only [List.forall_mem_cons, Access.allowed, decide_eq_true_eq]
    exact ⟨hzero ▸ hstack 0, hstack 1, hstack 2, hstack 3, hstack 4, hhi, hlo, nofun⟩
  obtain ⟨u, hu⟩ := (enterException_makes s.pc vector s).runs.completes (firstForbidden_eq_none hallowed)
  exact ⟨_, takeInterrupt_eq_ok.mpr ⟨u, finish_eq_next.mp hu, rfl⟩⟩

theorem entered_of_takeInterrupt {src : IntSource} {vector : Word} {s t : State}
    (h : takeInterrupt src vector s = .ok t) : Entered s.pc vector s t := by
  obtain ⟨u, hentry, rfl⟩ := takeInterrupt_eq_ok.mp h
  exact (entered_of_enterException hentry).set

/-! ### Return -/

/-- What returning from an exception leaves: SP five higher, and the five bytes above the old SP in the CCR, A, X and
PC. -/
structure Returned (s t : State) : Prop where
  sp : t.sp = s.sp + 5
  h : t.h = s.h
  mem : t.mem = s.mem
  ccr : s.kindAt (s.sp + 1) ≠ .io → t.ccr = Ccr.ofByte (s.peek (s.sp + 1))
  a : s.kindAt (s.sp + 2) ≠ .io → t.a = s.peek (s.sp + 2)
  x : s.kindAt (s.sp + 3) ≠ .io → t.x = s.peek (s.sp + 3)
  pc : s.kindAt (s.sp + 4) ≠ .io → s.kindAt (s.sp + 5) ≠ .io →
    t.pc = joinBytes (s.peek (s.sp + 4)) (s.peek (s.sp + 5))

/-- `t` is `s` after `n` bytes are pulled, of which the last is `b`. -/
structure Pulled (n : Nat) (b : Byte) (s t : State) : Prop where
  sp : t.sp = s.sp + BitVec.ofNat 16 n
  h : t.h = s.h
  mem : t.mem = s.mem
  params : t.params = s.params
  value : s.kindAt (s.sp + BitVec.ofNat 16 n) ≠ .io → b = s.peek (s.sp + BitVec.ofNat 16 n)

theorem pulled_one {b : Byte} {s t : State} (h : pull8 s = .ok (b, t)) : Pulled 1 b s t := by
  obtain ⟨-, hp⟩ := pull8_eq_ok.mp h
  obtain ⟨rfl, rfl⟩ := Prod.mk.inj hp
  exact ⟨rfl, rfl, rfl, rfl, State.readValue_of_not_io⟩

/-- One byte more, from the state that the bytes before it leave. -/
theorem Pulled.next {n : Nat} {b b' : Byte} {s t u : State} (h : Pulled n b s t) (hpull : pull8 t = .ok (b', u)) :
    Pulled (n + 1) b' s u := by
  obtain ⟨hsp, hh, hmem, hparams, -⟩ := h
  obtain ⟨hsp', hh', hmem', hparams', hvalue⟩ := pulled_one hpull
  have haddr : t.sp + BitVec.ofNat 16 1 = s.sp + BitVec.ofNat 16 (n + 1) := by
    rw [hsp, BitVec.ofNat_add, BitVec.add_assoc]
  rw [haddr] at hsp' hvalue
  rw [State.kindAt_congr hparams, State.peek_congr hmem] at hvalue
  exact ⟨hsp', hh'.trans hh, hmem'.trans hmem, hparams'.trans hparams, hvalue⟩

theorem returned_of_returnFromException {s t : State} (h : returnFromException s = .ok t) : Returned s t := by
  obtain ⟨flags, acc, idx, target, s1, s2, s3, s5, h1, h2, h3, hpc, rfl⟩ := returnFromException_eq_ok.mp h
  obtain ⟨hi, lo, s4, s6, h4, h5, hword⟩ := pullWord_eq_ok.mp hpc
  obtain ⟨rfl, rfl⟩ := Prod.mk.inj hword
  have p1 := pulled_one h1
  have p2 := p1.next h2
  have p3 := p2.next h3
  have p4 := p3.next h4
  have p5 := p4.next h5
  exact ⟨p5.sp, p5.h, p5.mem, fun hio => congrArg Ccr.ofByte (p1.value hio), p2.value, p3.value,
    fun hhi hlo => congrArg₂ joinBytes (p4.value hhi) (p5.value hlo)⟩

/-! ### Return after entry -/

theorem Access.allowed_read_of_ram {s : State} {a : Word} (h : s.kindAt a = .ram) : (Access.read a).allowed s = true :=
  decide_eq_true (State.readable_of_ram h)

/-- RTI after an entry with the stack in RAM finds what the entry pushed. -/
theorem rti_undoes_entry {ret vector : Word} {s t : State}
    (hram : ∀ k : Fin 5, s.kindAt (s.sp - BitVec.ofNat 16 k) = .ram) (h : Entered ret vector s t) :
    ∃ u, exec .rti t = .next u ∧ u.a = s.a ∧ u.x = s.x ∧ u.h = s.h ∧ u.sp = s.sp ∧ u.ccr = s.ccr ∧ u.pc = ret := by
  have hsp1 : t.sp + 1 = s.sp - 4 := by rw [h.sp]; bv_omega
  have hsp2 : t.sp + 2 = s.sp - 3 := by rw [h.sp]; bv_omega
  have hsp3 : t.sp + 3 = s.sp - 2 := by rw [h.sp]; bv_omega
  have hsp4 : t.sp + 4 = s.sp - 1 := by rw [h.sp]; bv_omega
  have hsp5 : t.sp + 5 = s.sp := by rw [h.sp]; exact BitVec.sub_add_cancel s.sp 5
  have hram0 : s.kindAt s.sp = .ram := (congrArg s.kindAt (BitVec.sub_zero s.sp)).symm.trans (hram 0)
  have hkind : ∀ b, t.kindAt b = s.kindAt b := State.kindAt_congr h.params
  have hram1 : t.kindAt (t.sp + 1) = .ram := by rw [hkind, hsp1]; exact hram 4
  have hram2 : t.kindAt (t.sp + 2) = .ram := by rw [hkind, hsp2]; exact hram 3
  have hram3 : t.kindAt (t.sp + 3) = .ram := by rw [hkind, hsp3]; exact hram 2
  have hram4 : t.kindAt (t.sp + 4) = .ram := by rw [hkind, hsp4]; exact hram 1
  have hram5 : t.kindAt (t.sp + 5) = .ram := by rw [hkind, hsp5]; exact hram0
  have hallowed : ∀ x ∈ [Access.read (t.sp + 1), .read (t.sp + 2), .read (t.sp + 3), .read (t.sp + 4),
      .read (t.sp + 5)], x.allowed t = true := by
    simp only [List.forall_mem_cons]
    exact ⟨Access.allowed_read_of_ram hram1, Access.allowed_read_of_ram hram2, Access.allowed_read_of_ram hram3,
      Access.allowed_read_of_ram hram4, Access.allowed_read_of_ram hram5, nofun⟩
  obtain ⟨u, hu⟩ := (exec_runs .rti t).completes (firstForbidden_eq_none hallowed)
  obtain ⟨hsp, hh, -, hccr, ha, hx, hpc⟩ := returned_of_returnFromException (finish_eq_next.mp hu)
  refine ⟨u, hu, ?a, ?x, hh.trans h.h, hsp.trans hsp5, ?ccr, ?pc⟩
  case a => rw [ha (State.not_io_of_ram hram2), hsp2, h.acc (hram 3)]
  case x => rw [hx (State.not_io_of_ram hram3), hsp3, h.index (hram 2)]
  case ccr => rw [hccr (State.not_io_of_ram hram1), hsp1, h.flags (hram 4), Ccr.ofByte_byte]
  case pc =>
    rw [hpc (State.not_io_of_ram hram4) (State.not_io_of_ram hram5), hsp4, hsp5, h.pch (hram 1), h.pcl hram0,
      joinBytes_hiByte_loByte]

end Sys2Proof.Machine

namespace Sys2Proof.Proofs

open Sys2Proof Sys2Proof.Machine

/-- Settles O41: SWI is an entry with the address of the next instruction and the vector `$FFFC`. -/
theorem swiResult : Obligations.SwiResult := by
  refine ⟨encodedAs_of_encode rfl rfl, fun s hallowed => ?_⟩
  obtain ⟨t, ht⟩ := (exec_runs .swi s).completes (firstForbidden_eq_none hallowed)
  obtain ⟨-, hs⟩ := exec_effect ht
  obtain ⟨-, hsp, ha, hx, hh, hccr, hpc, hpcl, hpch, hindex, hacc, hflags, hframe⟩ :=
    entered_of_enterException (finish_eq_next.mp ht)
  exact ⟨t, ht, hsp, ha, hx, hh, hccr, hs.run, hs.irqPin, hs.pending, hpc, hpcl, hpch, hindex, hacc, hflags, hframe⟩

/-- Settles O42: RTI reads the five bytes above SP. -/
theorem rtiResult : Obligations.RtiResult := by
  refine ⟨encodedAs_of_encode rfl rfl, fun s hallowed => ?_⟩
  obtain ⟨t, ht⟩ := (exec_runs .rti s).completes (firstForbidden_eq_none hallowed)
  obtain ⟨-, hs⟩ := exec_effect ht
  obtain ⟨hsp, hh, hmem, hccr, ha, hx, hpc⟩ := returned_of_returnFromException (finish_eq_next.mp ht)
  exact ⟨t, ht, hsp, hh, hmem, hs.run, hs.irqPin, hs.pending, hccr, ha, hx, hpc⟩

/-- Settles O57: SWI and a hardware interrupt leave the same frame, and RTI reads it back. -/
theorem returnUndoesEntry : Obligations.ReturnUndoesEntry := by
  refine fun s t hram => ⟨fun hswi => ?swi, fun src vector hinterrupt => ?interrupt⟩
  case swi => exact rti_undoes_entry hram (entered_of_enterException (finish_eq_next.mp hswi))
  case interrupt => exact rti_undoes_entry hram (entered_of_takeInterrupt hinterrupt)

end Sys2Proof.Proofs
end

section
/-! PROOF. Interrupts at a boundary (spec/60_exceptions.md R316 to R319, R330, R331): which request is the highest, and
the move that a boundary calls for in each run state, with I clear or set and the late window open or closed. -/

namespace Sys2Proof.Machine

/-! ### The highest request -/

theorem highest_eq_some_iff {s : State} {src : IntSource} {vector : Word} : highest s = some (src, vector) ↔
    src ∈ s.pending ∧ ∃ before after, s.params.sources = before ++ (src, vector) :: after ∧
      ∀ q ∈ before, q.1 ∉ s.pending := by
  simp [highest, List.find?_eq_some_iff_append]

theorem highest_eq_none_iff {s : State} : highest s = none ↔ ∀ q ∈ s.params.sources, q.1 ∉ s.pending := by
  simp [highest]

/-- The IRQ pin's request is the pin's entry in the launch's list, where the pin is pending (R331). -/
theorem pendingIrq_of_mem {s : State} (h : .irq ∈ s.pending) :
    pendingIrq s = s.params.sources.find? (fun p => p.1 == .irq) := by
  simp [pendingIrq, h]

theorem pendingIrq_of_not_mem {s : State} (h : .irq ∉ s.pending) : pendingIrq s = none := by
  simp [pendingIrq, h]

/-! ### The move -/

section Move

variable {s : State} {p : IntSource × Word}

theorem chooseMove_of_no_request (hr : s.run = .running) (hp : highest s = none) : chooseMove s = .execute := by
  simp [chooseMove, hr, hp]

/-- With I clear a request of any source is taken by a machine that runs or waits (R316, R330). -/
theorem chooseMove_of_request (hr : s.run = .running ∨ s.run = .waiting) (hi : s.ccr.i = false)
    (hp : highest s = some p) : chooseMove s = .interrupt p.1 p.2 := by
  rcases hr with hr | hr <;> simp [chooseMove, hr, hi, hp]

/-- In the late window a draw decides (R317). -/
theorem chooseMove_of_late_request (hr : s.run = .running) (hp : highest s = some p) :
    chooseMove s = .execute ∨ chooseMove s = .interrupt p.1 p.2 := by
  simp only [chooseMove, hr, hp]
  split
  · exact .inr rfl
  · exact .inl rfl

theorem chooseMove_of_waiting (hr : s.run = .waiting) (hp : highest s = none) : chooseMove s = .idle := by
  simp [chooseMove, hr, hp]

theorem chooseMove_of_stopped (hr : s.run = .stopped) (hp : pendingIrq s = none) : chooseMove s = .idle := by
  simp [chooseMove, hr, hp]

theorem chooseMove_of_stopped_request (hr : s.run = .stopped) (hi : s.ccr.i = false) (hp : pendingIrq s = some p) :
    chooseMove s = .interrupt p.1 p.2 := by
  simp [chooseMove, hr, hi, hp]

/-! ### The late window -/

/-- No draw is used where I is clear or nothing is pending. -/
theorem State.closeWindow_of_not_windowOpen (h : s.windowOpen = false) :
    s.closeWindow = { s with seiWindow := false } := by
  simp [State.closeWindow, h]

theorem State.closeWindow_eq_self (h : s.seiWindow = false) : s.closeWindow = s := by
  rw [State.closeWindow_of_seiWindow_false h, ← h]

/-! ### The step -/

/-- Without RESET the step is the move chosen after the environment's input, with the late window closed. -/
theorem step_of_takeInput {s1 : State} (h : takeInput s = (false, s1)) :
    step s = perform (chooseMove s1) s1.closeWindow := by
  simp [step, boundary, h]

end Move

end Sys2Proof.Machine

namespace Sys2Proof.Proofs

open Sys2Proof Sys2Proof.Machine

/-- Settles O53: the boundary takes the highest request, and the entry starts from the state with the late window
closed. -/
theorem interruptEntry : Obligations.InterruptEntry := by
  refine ⟨fun s src vector => highest_eq_some_iff, fun s => highest_eq_none_iff, ?_⟩
  intro s s1 src vector hinput hrun hi hp hstack hhi hlo
  have hclosed : s1.windowOpen = false := by simp [State.windowOpen, hi]
  obtain ⟨t, ht⟩ := takeInterrupt_of_allowed (s := { s1 with seiWindow := false }) (src := src) hstack hhi hlo
  have hstep : step s = .next t := by
    rw [step_of_takeInput hinput, chooseMove_of_request (.inl hrun) hi hp,
      State.closeWindow_of_not_windowOpen hclosed]
    exact congrArg finish ht
  have hs := takeInterrupt_surroundings ht
  obtain ⟨-, hsp, ha, hx, hh, hccr, hpc, hpcl, hpch, hindex, hacc, hflags, hframe⟩ := entered_of_takeInterrupt ht
  exact ⟨t, hstep, hsp, ha, hx, hh, hccr, hs.run, hs.pending, hs.irqPin, hpc, hpcl, hpch, hindex, hacc, hflags, hframe⟩

/-- Settles O54: I masks every request outside the late window, and in it either move follows; the move starts with the
window closed. -/
theorem maskAndSeiWindow : Obligations.MaskAndSeiWindow := by
  intro s s1 hinput hrun hi
  rw [step_of_takeInput hinput]
  refine ⟨fun hw => ?masked, fun p hp hw => ⟨s1.closeWindow.draws, ?window⟩, fun hp => ?quiet⟩
  case masked =>
    rw [chooseMove_of_masked hrun hi hw, State.closeWindow_eq_self hw]
    rfl
  case window =>
    refine (chooseMove_of_late_request hrun hp).imp (fun hmove => ?_) (fun hmove => ?_)
    · rw [hmove]; rfl
    · rw [hmove]; rfl
  case quiet =>
    have hclosed : s1.windowOpen = false := by simp [State.windowOpen, hp]
    rw [chooseMove_of_no_request hrun hp, State.closeWindow_of_not_windowOpen hclosed]
    rfl

/-- Settles O55: a machine that waits looks at every source, a stopped one at the IRQ pin's alone. -/
theorem waitingAndStopped : Obligations.WaitingAndStopped := by
  intro s s1 hinput hi hw
  rw [step_of_takeInput hinput, State.closeWindow_eq_self hw]
  refine ⟨fun hrun hp => ?waits, fun p hrun hp => ?ends, fun hrun hp => ?stays, fun v hrun hp hv => ?pin⟩
  case waits => rw [chooseMove_of_waiting hrun hp]; rfl
  case ends => rw [chooseMove_of_request (.inr hrun) hi hp]; rfl
  case stays => rw [chooseMove_of_stopped hrun (pendingIrq_of_not_mem hp)]; rfl
  case pin => rw [chooseMove_of_stopped_request hrun hi ((pendingIrq_of_mem hp).trans hv)]; rfl

end Sys2Proof.Proofs
end
